-- ==== Sys2Proof/Word.lean ====
section
/-! DEFINITION. The machine words: a 32-bit register or frame word, and one byte lane of it (spec 00_scope.md rule R8). -/

namespace Sys2Proof

/-- A 32-bit register or frame word (rule R8). -/
abbrev Word := BitVec 32

/-- One byte lane of a word (rule R51). -/
abbrev Byte := BitVec 8

end Sys2Proof
end

