-- ==== Sys2Proof/Config.lean ====
section
/-! DEFINITION. The implementation parameters of rules R6 and R7 as one record with the spec's defaults, and the values the
spec leaves open, which have no body. -/

namespace Sys2Proof.Config

/-- The parameters an engine is built with. The model takes them as arguments (92_eei_decisions.md D31, OPEN parameters): each
engine carries its own record beside its state, and nothing writes it (log 3). -/
structure Params where
  /-- `T_HALF`: the half-period of one bit slot, in microseconds (rule R6) -/
  tHalf : Nat
  /-- `T_SAMPLE`: the receive sampling threshold (rule R6) -/
  tSample : Nat
  /-- `T_TIMEOUT`: the silence window (rule R6) -/
  tTimeout : Nat
  /-- `T_DELAY`: the delay between exchanges (rule R6) -/
  tDelay : Nat
  /-- `N_SLOTS`: start bit, data bits, stop bit (rule R6) -/
  nSlots : Nat
  /-- `TX_PIN_ACTIVE_LEVEL`: the electrical level of ACTIVE on the output pin, `true` being high (rule R7) -/
  txPinActiveLevel : Bool
  /-- `RX_PIN_ACTIVE_LEVEL`: the electrical level of ACTIVE on the input pin (rule R7) -/
  rxPinActiveLevel : Bool
  deriving DecidableEq, Repr

/-- The default values (rules R6 and R7). -/
def defaults : Params where
  tHalf := 500
  tSample := 750
  tTimeout := 1000000
  tDelay := 100000
  nSlots := 34
  txPinActiveLevel := false
  rxPinActiveLevel := true

/-- `T_BIT = 2 * T_HALF`: the full bit period (rule R6). -/
def Params.tBit (p : Params) : Nat := 2 * p.tHalf

/-- `T_FRAME = N_SLOTS * T_BIT`: the duration of a frame on the wire (rule R6). -/
def Params.tFrame (p : Params) : Nat := p.nSlots * p.tBit

/-- The index of a frame's last half-period: the one that ends at `T_FRAME`, 67 by default (rules R6, R63). -/
def Params.lastHp (p : Params) : Nat := 2 * p.nSlots - 1

/-- `IS_SLAVE` of the engine that `State.reset` describes. DESIGN CHOICE (log 2): the spec leaves the strap to each engine,
so `State.resetAs` takes it as an argument and this constant picks the master for the one state that needs a value. -/
def isSlaveStrap : Bool := false

/-- Which 64-byte block the register window occupies: OPEN in the spec (rule R7), so it has no body (log 3). -/
opaque baseBlock : Nat

/-- `BASE`: the byte address of the register window, a multiple of 64 (92_eei_decisions.md, OPEN parameters). -/
def base : Nat := 64 * baseBlock

/-- The system clock in MHz: OPEN in the spec (rule R7), so it has no body; no rule reads it (log 3). -/
opaque fClkMHz : Nat

/-- `F_CLK` in Hz: an integer multiple of 1 MHz (rule R7). -/
def fClk : Nat := 1000000 * fClkMHz

/-- The bit of a slot after slot 33, in an engine built with `N_SLOTS` above 34: the spec states none (log 3). -/
opaque slotBeyondFrame : Word → Nat → Bool

/-- What `fromFixedPointFloat` gives for NaN: any 16-bit value (93_implementation_defined.md U7), so it has no body (log 4). -/
opaque nanPayload : BitVec 16

end Sys2Proof.Config
end

