-- ==== Sys2Proof/Syntax.lean ====
section
/-! DEFINITION. The operations of the engine as syntax: one constructor of `Instr` per row of spec/opcode_table.json. The
engine is no processor (rule R32), so an operation is a host command, a frame word given to the codec, a frame or a symbol on
the wire, an edge of the input line, or an access to a register (INDEX.md, "operation of the engine"). -/

namespace Sys2Proof

/-- The two abstract line levels (rule R12). -/
inductive Level where
  | idle
  | active
  deriving DecidableEq, Repr

/-- The six encoding formats of the opcode table: which interface a pattern of bits arrives on. -/
inductive Format where
  /-- the write data of the CMD register (rule R70) -/
  | cmd
  /-- a frame word (rule R65) -/
  | frame
  /-- a whole frame on the wire (rule R62) -/
  | wire
  /-- one slot on the wire (rule R60) -/
  | symbol
  /-- one edge event (rule R125) -/
  | event
  /-- one access on the register port (rule R40) -/
  | reg
  deriving DecidableEq, Repr

/-- The direction of a register access and, for a write, `wdata` (rule R40: `re`, or `we` with `wdata`). -/
inductive Access where
  | read
  | write (v : Word)
  deriving DecidableEq, Repr

/-- What stands on one interface: a pattern of exactly the bits that interface carries (rule R77, every encoding is of fixed
length). -/
inductive Bits where
  /-- the write data of the CMD register (rule R70) -/
  | cmd (w : Word)
  /-- a frame word (rule R65) -/
  | frame (w : Word)
  /-- 34 slots on the wire, the first slot in the highest bit (rule R62) -/
  | wire (v : BitVec 34)
  /-- the two half-periods of one slot, the first in the higher bit, 1 being ACTIVE (rule R60) -/
  | symbol (v : BitVec 2)
  /-- the new level of one edge event, 1 being ACTIVE (rule R125) -/
  | event (v : BitVec 1)
  /-- an access at a byte offset of the register window (rule R40) -/
  | reg (offset : BitVec 6) (a : Access)
  deriving DecidableEq, Repr

/-- The operations, one constructor per row of the opcode table. -/
inductive Instr where
  /-- NOP (R157); bits 27:0 are ignored -/
  | nop (ign : BitVec 28)
  /-- BEGIN (R142) -/
  | beginLink (ign : BitVec 28)
  /-- POLL (R149) -/
  | poll (ign : BitVec 28)
  /-- SEND_REQUEST (R143, R144) -/
  | sendRequest (ign : BitVec 28)
  /-- SEND_RESPONSE (R146, R147) -/
  | sendResponse (ign : BitVec 28)
  /-- BUILD_REQUEST (R155): reserved bit 27, TYPE, ID, DATA -/
  | buildRequest (rsv : BitVec 1) (type : BitVec 3) (id : BitVec 8) (data : BitVec 16)
  /-- BUILD_RESPONSE (R156): reserved bit 27, TYPE, ID, DATA -/
  | buildResponse (rsv : BitVec 1) (type : BitVec 3) (id : BitVec 8) (data : BitVec 16)
  /-- reserved command opcodes 0x7 to 0xF (R73) -/
  | cmdReserved7 (ign : BitVec 28)
  | cmdReserved8 (ign : BitVec 28)
  | cmdReserved9 (ign : BitVec 28)
  | cmdReservedA (ign : BitVec 28)
  | cmdReservedB (ign : BitVec 28)
  | cmdReservedC (ign : BitVec 28)
  | cmdReservedD (ign : BitVec 28)
  | cmdReservedE (ign : BitVec 28)
  | cmdReservedF (ign : BitVec 28)
  /-- a frame word of message type READ_DATA (R66): P, SPARE, DATAID, PAYLOAD -/
  | frameReadData (p : BitVec 1) (spare : BitVec 4) (id : BitVec 8) (payload : BitVec 16)
  | frameWriteData (p : BitVec 1) (spare : BitVec 4) (id : BitVec 8) (payload : BitVec 16)
  | frameInvalidData (p : BitVec 1) (spare : BitVec 4) (id : BitVec 8) (payload : BitVec 16)
  | frameMsgtypeReserved3 (p : BitVec 1) (spare : BitVec 4) (id : BitVec 8) (payload : BitVec 16)
  | frameReadAck (p : BitVec 1) (spare : BitVec 4) (id : BitVec 8) (payload : BitVec 16)
  | frameWriteAck (p : BitVec 1) (spare : BitVec 4) (id : BitVec 8) (payload : BitVec 16)
  | frameDataInvalid (p : BitVec 1) (spare : BitVec 4) (id : BitVec 8) (payload : BitVec 16)
  | frameUnknownDataId (p : BitVec 1) (spare : BitVec 4) (id : BitVec 8) (payload : BitVec 16)
  /-- 34 slots on the wire: start slot, the 32 frame bits, stop slot (R62) -/
  | wireFrame (start : Bool) (f : Word) (stop : Bool)
  /-- one slot carrying a logical 1 (R60) -/
  | bit1
  /-- one slot carrying a logical 0 (R60) -/
  | bit0
  /-- one sensed transition of the line to ACTIVE (R134) -/
  | edgeActive
  /-- one sensed transition of the line to IDLE (R134) -/
  | edgeIdle
  /-- accesses to the sixteen registers of the window (R41) -/
  | regCmd (a : Access)
  | regStatus (a : Access)
  | regTxdata (a : Access)
  | regResponse (a : Access)
  | regRespTs (a : Access)
  | regNow (a : Access)
  | regDoneFrame (a : Access)
  | regIrqStatus (a : Access)
  | regIrqEnable (a : Access)
  | regCodecFrame (a : Access)
  | regCodecInfo (a : Access)
  | regReserved2C (a : Access)
  | regReserved30 (a : Access)
  | regReserved34 (a : Access)
  | regReserved38 (a : Access)
  | regReserved3C (a : Access)
  deriving DecidableEq, Repr

end Sys2Proof
end

