-- ==== Sys2Proof/WellFormed.lean ====
section
/-! DEFINITION. Which operations are well formed. Every operand but those of a wire frame is a bit field of the width the
table gives it, so the one thing left to check is rule R62: the start slot and the stop slot of a frame are both 1. -/

namespace Sys2Proof

/-- Well-formedness: a wire frame starts and ends with a 1 (rule R62); every other form is well formed as it stands. -/
def Instr.wf : Instr → Bool
  | .wireFrame start _ stop => start && stop
  | .nop _ | .beginLink _ | .poll _ | .sendRequest _ | .sendResponse _ => true
  | .buildRequest _ _ _ _ | .buildResponse _ _ _ _ => true
  | .cmdReserved7 _ | .cmdReserved8 _ | .cmdReserved9 _ | .cmdReservedA _ | .cmdReservedB _ => true
  | .cmdReservedC _ | .cmdReservedD _ | .cmdReservedE _ | .cmdReservedF _ => true
  | .frameReadData _ _ _ _ | .frameWriteData _ _ _ _ | .frameInvalidData _ _ _ _ => true
  | .frameMsgtypeReserved3 _ _ _ _ | .frameReadAck _ _ _ _ | .frameWriteAck _ _ _ _ => true
  | .frameDataInvalid _ _ _ _ | .frameUnknownDataId _ _ _ _ => true
  | .bit1 | .bit0 | .edgeActive | .edgeIdle => true
  | .regCmd _ | .regStatus _ | .regTxdata _ | .regResponse _ | .regRespTs _ | .regNow _ => true
  | .regDoneFrame _ | .regIrqStatus _ | .regIrqEnable _ | .regCodecFrame _ | .regCodecInfo _ => true
  | .regReserved2C _ | .regReserved30 _ | .regReserved34 _ | .regReserved38 _ | .regReserved3C _ => true

end Sys2Proof
end

