-- ==== Sys2Proof/Decode.lean ====
section
/-! DEFINITION. From the bits that arrive on an interface to an operation, and back. `decode` is total on every list of bytes
and rejects by name: `framed` gives the bits the bytes stand for, `decodeBits` the operation those bits spell. `encode` goes
the other way, through `bitsOf` and `bytesOf`, by the same layouts (rules R60, R62, R65, R70, R41). The formats overlap as bare
bit patterns (0x10000000 is both BEGIN and a WRITE_DATA frame word), so a pattern is decoded together with the interface it
arrives on (log 6). -/

namespace Sys2Proof

/-- Bits of an interface that spell no operation of the opcode table. What they do all the same is `Machine.presentMisfit`:
the receiver takes any waveform (rules R75, R198). -/
inductive Misfit where
  /-- slot 0 of a wire frame is not 1 (rule R62) -/
  | startSlotNotOne (f : Word) (stop : Bool)
  /-- slot 33 of a wire frame is not 1 (rule R62) -/
  | stopSlotNotOne (f : Word)
  /-- the two half-periods have one level, so the slot has no transition at its middle (rule R60) -/
  | flatSymbol (lvl : Level)
  /-- the register offset is not a multiple of 4 (rule R52) -/
  | registerMisaligned
  deriving DecidableEq, Repr

/-- Why a list of bytes is no operation of the opcode table. -/
inductive DecodeError where
  /-- the number of bytes is not that of the format (rule R77) -/
  | wrongLength
  /-- a bit above those the format has is set (rule R77) -/
  | paddingSet
  /-- the register offset lies outside the 64-byte window (rule R54) -/
  | registerOutsideWindow
  /-- the direction byte of a register access is neither 0 (read) nor 1 (write) (log 7) -/
  | badDirection
  /-- the bytes are bits of the interface, and those spell no operation -/
  | misfit (m : Misfit)
  deriving DecidableEq, Repr

/-! ### Byte lanes (rule R51) -/

/-- Byte lane `k` of a word carries bits `8k+7:8k` (rule R51). -/
def byteLane (w : Word) (k : Nat) : Byte := w.extractLsb' (8 * k) 8

/-- The four byte lanes of a word, lane 0 at the lowest offset (rule R51). -/
def wordBytes (w : Word) : List Byte := [byteLane w 0, byteLane w 1, byteLane w 2, byteLane w 3]

/-- The word whose byte lanes are given, lane 0 first (rule R51). -/
def wordOfLanes (b0 b1 b2 b3 : Byte) : Word := b3 ++ b2 ++ b1 ++ b0

/-! ### Bit layouts -/

/-- The command word: OPC in bits 31:28, the rest below it (rule R70). -/
def cmdWord (opc : BitVec 4) (rest : BitVec 28) : Word := opc ++ rest

/-- Bits 27:0 of a BUILD command: reserved bit, TYPE, ID, DATA (rule R70). -/
def buildRest (rsv : BitVec 1) (type : BitVec 3) (id : BitVec 8) (data : BitVec 16) : BitVec 28 :=
  rsv ++ type ++ id ++ data

/-- The frame word: P, MSGTYPE, SPARE, DATAID, PAYLOAD (rule R65). -/
def frameWord (p : BitVec 1) (type : BitVec 3) (spare : BitVec 4) (id : BitVec 8) (payload : BitVec 16) : Word :=
  p ++ type ++ spare ++ id ++ payload

/-- The 34 slots of a wire frame, the first slot in the highest bit (rule R62). -/
def wireWord (start : Bool) (f : Word) (stop : Bool) : BitVec 34 :=
  BitVec.ofBool start ++ f ++ BitVec.ofBool stop

/-! ### Decoding -/

/-- The host command a CMD word encodes; all sixteen opcodes are assigned or reserved (rules R70, R72, R73, R140). -/
def decodeCmd (w : Word) : Instr :=
  let rest := w.extractLsb' 0 28
  let rsv := w.extractLsb' 27 1
  let type := w.extractLsb' 24 3
  let id := w.extractLsb' 16 8
  let data := w.extractLsb' 0 16
  match (w.extractLsb' 28 4).toNat with
  | 0 => .nop rest
  | 1 => .beginLink rest
  | 2 => .poll rest
  | 3 => .sendRequest rest
  | 4 => .sendResponse rest
  | 5 => .buildRequest rsv type id data
  | 6 => .buildResponse rsv type id data
  | 7 => .cmdReserved7 rest
  | 8 => .cmdReserved8 rest
  | 9 => .cmdReserved9 rest
  | 10 => .cmdReservedA rest
  | 11 => .cmdReservedB rest
  | 12 => .cmdReservedC rest
  | 13 => .cmdReservedD rest
  | 14 => .cmdReservedE rest
  | _ => .cmdReservedF rest

/-- The frame word by its message type; all eight codes are rows of the table (rules R65, R66). -/
def decodeFrame (w : Word) : Instr :=
  let p := w.extractLsb' 31 1
  let spare := w.extractLsb' 24 4
  let id := w.extractLsb' 16 8
  let payload := w.extractLsb' 0 16
  match (w.extractLsb' 28 3).toNat with
  | 0 => .frameReadData p spare id payload
  | 1 => .frameWriteData p spare id payload
  | 2 => .frameInvalidData p spare id payload
  | 3 => .frameMsgtypeReserved3 p spare id payload
  | 4 => .frameReadAck p spare id payload
  | 5 => .frameWriteAck p spare id payload
  | 6 => .frameDataInvalid p spare id payload
  | _ => .frameUnknownDataId p spare id payload

/-- The register access by its word index `addr[5:2]` (rules R40, R41). -/
def regInstr (index : BitVec 4) (a : Access) : Instr :=
  match index.toNat with
  | 0 => .regCmd a
  | 1 => .regStatus a
  | 2 => .regTxdata a
  | 3 => .regResponse a
  | 4 => .regRespTs a
  | 5 => .regNow a
  | 6 => .regDoneFrame a
  | 7 => .regIrqStatus a
  | 8 => .regIrqEnable a
  | 9 => .regCodecFrame a
  | 10 => .regCodecInfo a
  | 11 => .regReserved2C a
  | 12 => .regReserved30 a
  | 13 => .regReserved34 a
  | 14 => .regReserved38 a
  | _ => .regReserved3C a

/-- A wire frame from its 34 slots; the start and stop slots must be 1 (rule R62). -/
def decodeWire (v : BitVec 34) : Except Misfit Instr :=
  if v.getLsbD 33 then
    if v.getLsbD 0 then .ok (.wireFrame true (v.extractLsb' 1 32) true)
    else .error (.stopSlotNotOne (v.extractLsb' 1 32))
  else .error (.startSlotNotOne (v.extractLsb' 1 32) (v.getLsbD 0))

/-- A symbol from its two half-periods (rule R60). -/
def decodeSymbol (v : BitVec 2) : Except Misfit Instr :=
  match v.toNat with
  | 0 => .error (.flatSymbol .idle)
  | 1 => .ok .bit0
  | 2 => .ok .bit1
  | _ => .error (.flatSymbol .active)

/-- An edge event from its level (rule R125). -/
def decodeEvent (v : BitVec 1) : Instr := if v.getLsbD 0 then .edgeActive else .edgeIdle

/-- A register access from its byte offset (rules R41, R52). -/
def decodeReg (offset : BitVec 6) (a : Access) : Except Misfit Instr :=
  if offset.extractLsb' 0 2 ≠ 0 then .error .registerMisaligned else .ok (regInstr (offset.extractLsb' 2 4) a)

/-- The operation the bits of an interface spell. -/
def decodeBits : Bits → Except Misfit Instr
  | .cmd w => .ok (decodeCmd w)
  | .frame w => .ok (decodeFrame w)
  | .wire v => decodeWire v
  | .symbol v => decodeSymbol v
  | .event v => .ok (decodeEvent v)
  | .reg offset a => decodeReg offset a

/-- The direction and write data of a register access (log 7). -/
def framedAccess (direction : Byte) (w : Word) : Except DecodeError Access :=
  match direction.toNat with
  | 0 => .ok .read
  | 1 => .ok (.write w)
  | _ => .error .badDirection

/-- The bits that bytes stand for on an interface (log 7). -/
def framed (fmt : Format) (bytes : List Byte) : Except DecodeError Bits :=
  match fmt, bytes with
  | .cmd, [b0, b1, b2, b3] => .ok (.cmd (wordOfLanes b0 b1 b2 b3))
  | .frame, [b0, b1, b2, b3] => .ok (.frame (wordOfLanes b0 b1 b2 b3))
  | .wire, [b0, b1, b2, b3, b4] =>
    if b4.extractLsb' 2 6 ≠ 0 then .error .paddingSet
    else .ok (.wire (b4.extractLsb' 0 2 ++ wordOfLanes b0 b1 b2 b3))
  | .symbol, [b0] => if b0.extractLsb' 2 6 ≠ 0 then .error .paddingSet else .ok (.symbol (b0.extractLsb' 0 2))
  | .event, [b0] => if b0.extractLsb' 1 7 ≠ 0 then .error .paddingSet else .ok (.event (b0.extractLsb' 0 1))
  | .reg, [offset, direction, b0, b1, b2, b3] =>
    if offset.extractLsb' 6 2 ≠ 0 then .error .registerOutsideWindow
    else match framedAccess direction (wordOfLanes b0 b1 b2 b3) with
      | .ok a => .ok (.reg (offset.extractLsb' 0 6) a)
      | .error e => .error e
  | _, _ => .error .wrongLength

/-- The decoder: an interface and the bytes that arrive on it, to an operation or a named rejection. -/
def decode (fmt : Format) (bytes : List Byte) : Except DecodeError Instr :=
  match framed fmt bytes with
  | .error e => .error e
  | .ok b =>
    match decodeBits b with
    | .ok i => .ok i
    | .error m => .error (.misfit m)

/-! ### Encoding -/

/-- The bits of a CMD word (rule R70). -/
def cmdBits (opc : BitVec 4) (rest : BitVec 28) : Bits := .cmd (cmdWord opc rest)

/-- The bits of a frame word (rule R65). -/
def frameBits (p : BitVec 1) (type : BitVec 3) (spare : BitVec 4) (id : BitVec 8) (payload : BitVec 16) : Bits :=
  .frame (frameWord p type spare id payload)

/-- The bits of a register access: the offset is `4 * index` (rule R41). -/
def regBits (index : BitVec 4) (a : Access) : Bits := .reg (index ++ (0 : BitVec 2)) a

/-- The bytes of bits on their interface, the lowest lane first (rule R51, log 7). -/
def bytesOf : Bits → Format × List Byte
  | .cmd w => (.cmd, wordBytes w)
  | .frame w => (.frame, wordBytes w)
  | .wire v => (.wire, wordBytes (v.extractLsb' 0 32) ++ [(v.extractLsb' 32 2).setWidth 8])
  | .symbol v => (.symbol, [v.setWidth 8])
  | .event v => (.event, [v.setWidth 8])
  | .reg offset .read => (.reg, [offset.setWidth 8, 0] ++ wordBytes 0)
  | .reg offset (.write w) => (.reg, [offset.setWidth 8, 1] ++ wordBytes w)

/-- The bits of an operation. -/
def bitsOf : Instr → Bits
  | .nop ign => cmdBits 0 ign
  | .beginLink ign => cmdBits 1 ign
  | .poll ign => cmdBits 2 ign
  | .sendRequest ign => cmdBits 3 ign
  | .sendResponse ign => cmdBits 4 ign
  | .buildRequest rsv type id data => cmdBits 5 (buildRest rsv type id data)
  | .buildResponse rsv type id data => cmdBits 6 (buildRest rsv type id data)
  | .cmdReserved7 ign => cmdBits 7 ign
  | .cmdReserved8 ign => cmdBits 8 ign
  | .cmdReserved9 ign => cmdBits 9 ign
  | .cmdReservedA ign => cmdBits 10 ign
  | .cmdReservedB ign => cmdBits 11 ign
  | .cmdReservedC ign => cmdBits 12 ign
  | .cmdReservedD ign => cmdBits 13 ign
  | .cmdReservedE ign => cmdBits 14 ign
  | .cmdReservedF ign => cmdBits 15 ign
  | .frameReadData p spare id payload => frameBits p 0 spare id payload
  | .frameWriteData p spare id payload => frameBits p 1 spare id payload
  | .frameInvalidData p spare id payload => frameBits p 2 spare id payload
  | .frameMsgtypeReserved3 p spare id payload => frameBits p 3 spare id payload
  | .frameReadAck p spare id payload => frameBits p 4 spare id payload
  | .frameWriteAck p spare id payload => frameBits p 5 spare id payload
  | .frameDataInvalid p spare id payload => frameBits p 6 spare id payload
  | .frameUnknownDataId p spare id payload => frameBits p 7 spare id payload
  | .wireFrame start f stop => .wire (wireWord start f stop)
  | .bit1 => .symbol 0b10
  | .bit0 => .symbol 0b01
  | .edgeActive => .event 1
  | .edgeIdle => .event 0
  | .regCmd a => regBits 0 a
  | .regStatus a => regBits 1 a
  | .regTxdata a => regBits 2 a
  | .regResponse a => regBits 3 a
  | .regRespTs a => regBits 4 a
  | .regNow a => regBits 5 a
  | .regDoneFrame a => regBits 6 a
  | .regIrqStatus a => regBits 7 a
  | .regIrqEnable a => regBits 8 a
  | .regCodecFrame a => regBits 9 a
  | .regCodecInfo a => regBits 10 a
  | .regReserved2C a => regBits 11 a
  | .regReserved30 a => regBits 12 a
  | .regReserved34 a => regBits 13 a
  | .regReserved38 a => regBits 14 a
  | .regReserved3C a => regBits 15 a

/-- The encoder: the interface and the bytes of an operation. -/
def encode (i : Instr) : Format × List Byte := bytesOf (bitsOf i)

/-! ### The opcode table's own numbering -/

/-- The bits a word of `nbits` bits, numbered as the opcode table numbers it, stands for. 32 bits are a CMD word (a FRAME row
has the same 32 bits, and a bare word cannot say which it is: log 6), 40 bits (34 in whole bytes) a wire frame, 8 bits a
register offset, whose direction and write data lie above it and are 0, a read. Any other width is no row's. -/
def tableBits (nbits w : Nat) : Option Bits :=
  match nbits with
  | 32 => some (.cmd (BitVec.ofNat 32 w))
  | 40 => if w < 2 ^ 34 then some (.wire (BitVec.ofNat 34 w)) else none
  | 8 => if w < 64 then some (.reg (BitVec.ofNat 6 w) .read) else none
  | _ => none

/-- The operation the decoder reads from a table word. -/
def decodeTableWord (nbits w : Nat) : Option Instr :=
  match tableBits nbits w with
  | none => none
  | some b =>
    match decodeBits b with
    | .ok i => some i
    | .error _ => none

end Sys2Proof
end

