-- ==== Sys2Proof/Machine/State.lean ====
section
/-! DEFINITION. Everything the spec gives the machine (10_state.md), the outputs it drives (rule R27), and what the outside
world presents to it next (rule R5). Plain data throughout. -/

namespace Sys2Proof.Machine

/-- `status` (rule R14); the codes 9 to 15 are never held, so they have no constructor (93_implementation_defined.md U10). -/
inductive Status where
  | notInitialized
  | ready
  | requestSending
  | responseWaiting
  | responseStartBit
  | responseReceiving
  | responseReady
  | responseInvalid
  | delay
  deriving DecidableEq, Repr

/-- The Response Status (rule R19). -/
inductive ResponseStatus where
  | none
  | success
  | invalid
  | timeout
  deriving DecidableEq, Repr

/-- `tx_kind` (rule R24): what the frame being sent is. -/
inductive TxKind where
  | request
  | response
  deriving DecidableEq, Repr

/-- One access presented on the register port: `addr[5:2]` and the direction with `wdata` (rule R40). -/
structure PortRequest where
  index : BitVec 4
  access : Access
  deriving DecidableEq, Repr

/-- What the outside world presents to the engine in one step (rules R5, R170, R190): the host, the line environment and the
reset pin are unconstrained, so any list of these may stand in `inputs` (log 5). -/
inductive Input where
  /-- the bits on one interface -/
  | word (b : Bits)
  /-- `us` microseconds with no edge and no host access -/
  | wait (us : Nat)
  /-- one clock period (rule R170): whether the microsecond boundary falls in it, the sampled level of the line, the access
  on the port -/
  | clock (boundary : Bool) (level : Level) (port : Option PortRequest)
  /-- a host access of `n` bytes at a byte address, as it reaches the bus bridge (rules R40, R52) -/
  | bus (we : Bool) (addr n : Nat) (wdata : Word)
  /-- `rst_n` pulled low and released with this level on `is_slave_strap` (rules R190, R191) -/
  | reset (strap : Bool)
  deriving DecidableEq, Repr

/-- The state of the engine, the outputs it holds, the parameters it was built with, and the inputs still to come. -/
structure State where
  /-- rule R14 -/
  status : Status
  /-- the receive accumulator (rule R15) -/
  response : Word
  /-- the time of the last recorded event (rule R16) -/
  responseTimestamp : Word
  /-- how many data bits of the frame have been received (rule R17) -/
  responseBitIndex : BitVec 6
  /-- the role (rule R18) -/
  isSlave : Bool
  /-- rule R19 -/
  responseStatus : ResponseStatus
  /-- the free-running microsecond counter (rule R22) -/
  now : Word
  /-- the frame a send command will transmit (rule R23) -/
  txdata : Word
  /-- a frame is being sent (rule R24) -/
  txBusy : Bool
  /-- rule R24 -/
  txKind : TxKind
  /-- the frame latched at acceptance (rule R24) -/
  txFrame : Word
  /-- the index of the current half-period, 0 to 67 (rule R24) -/
  txHp : BitVec 7
  /-- the microseconds elapsed in the current half-period (rule R24) -/
  txCnt : BitVec 9
  /-- the level the engine drives (rule R25) -/
  lineOut : Level
  /-- whether the output pin is driven (rule R25) -/
  lineOe : Bool
  /-- the level seen at the previous sampling instant (rule R26) -/
  rxPrev : Level
  /-- the outcome of the most recent host command (rule R28) -/
  cmdOk : Bool
  /-- the sticky completion bit (rule R29) -/
  done : Bool
  /-- the frame of the most recent completion event (rule R29) -/
  doneFrame : Word
  /-- the enable of the `irq` output (rule R29) -/
  irqEn : Bool
  /-- the operand of the codec view (rule R30) -/
  codecFrame : Word
  /-- the output `done_valid` (rules R27, R164): 1 in the step of a completion event only -/
  doneValid : Bool
  /-- the output `rdata` (rules R27, R40): what the most recent read returned (log 8) -/
  rdata : Word
  /-- the model's own: the parameters this engine was built with, written by nothing (rules R6, R34; log 3) -/
  params : Config.Params
  /-- the model's own: what the outside world presents next, the first entry first (log 5) -/
  inputs : List Input
  deriving DecidableEq, Repr

/-- The reasons the engine stops with a fault: there are none. "Nothing in the engine is treated as `fault` or `stuck`"
(93_implementation_defined.md, after U16), and "no operation throws" (rule R161). -/
inductive Fault where
  deriving DecidableEq, Repr

/-- The reasons a step has no meaning. Every one is safe: the engine's state is as before and the run ends there. -/
inductive Refusal where
  /-- raised by an arm of `exec` that has no meaning yet; safe -/
  | notModelled (mnemonic : String)
  /-- raised by the bus bridge for an access that is not 4 bytes wide (rule R52); safe -/
  | accessWidth
  /-- raised for an address that is not a multiple of 4, at the bus bridge or at the window (rule R52); safe -/
  | accessMisaligned
  /-- raised by the bus bridge for an address outside the 64-byte window, which belongs to the platform (rule R54); safe -/
  | accessOutsideWindow
  deriving DecidableEq, Repr

/-- What one step answers. -/
abbrev Result := Host.Outcome State Fault Refusal

/-- An engine built with `p`, right after reset with `strap` on `is_slave_strap` (rules R35, R190); `rdata` and `doneValid` by
log 8. -/
def State.resetWith (p : Config.Params) (strap : Bool) : State where
  status := .notInitialized
  response := 0
  responseTimestamp := 0
  responseBitIndex := 0
  isSlave := strap
  responseStatus := .none
  now := 0
  txdata := 0
  txBusy := false
  txKind := .request
  txFrame := 0
  txHp := 0
  txCnt := 0
  lineOut := .idle
  lineOe := false
  rxPrev := .idle
  cmdOk := false
  done := false
  doneFrame := 0
  irqEn := false
  codecFrame := 0
  doneValid := false
  rdata := 0
  params := p
  inputs := []

/-- The engine with the default parameters, right after reset (rules R6, R35). -/
def State.resetAs (strap : Bool) : State := State.resetWith Config.defaults strap

/-- The state after reset of the engine whose strap is `Config.isSlaveStrap`. -/
def State.reset : State := State.resetAs Config.isSlaveStrap

end Sys2Proof.Machine
end

