-- ==== Sys2Proof/Machine/Codec.lean ====
section
/-! DEFINITION. The frame codec (40_codec.md): pure functions of a frame word, total on their stated widths (rule R104). -/

namespace Sys2Proof.Machine

/-! ### Inspection -/

/-- How many of the bits below `k` are 1. -/
def onesBelow (f : Word) : Nat → Nat
  | 0 => 0
  | k + 1 => onesBelow f k + (f.getLsbD k).toNat

/-- `popcount` of all 32 bits (rule R10). -/
def popcount (f : Word) : Nat := onesBelow f 32

/-- `parity(f) = popcount(f[31:0]) mod 2` (rule R90); it finds every odd number of flipped bits (rule R103(c)). -/
def parity (f : Word) : Bool := popcount f % 2 == 1

/-- `getMessageType(f) = f[30:28]` (rule R91). -/
def getMessageType (f : Word) : BitVec 3 := f.extractLsb' 28 3

/-- `getDataId(f) = f[23:16]` (rule R92). -/
def getDataId (f : Word) : BitVec 8 := f.extractLsb' 16 8

/-! ### Construction -/

/-- The frame word without its parity bit: the type in bits 30:28, the id in 23:16, the payload in 15:0 (rules R93, R94). -/
def frameBody (type : Word) (id : BitVec 8) (payload : BitVec 16) : Word :=
  payload.setWidth 32 ||| id.setWidth 32 <<< 16 ||| type <<< 28

/-- Install the parity bit in bit 31 (rules R93, R94). -/
def installParity (g : Word) : Word := g ||| (BitVec.ofBool (parity g)).setWidth 32 <<< 31

/-- `buildRequest(type, id, payload16)`: every type but WRITE_DATA gives READ_DATA (rule R93). Its parity is even and it is a
valid request for every type (rule R103(a), (b)). -/
def buildRequest (type : BitVec 3) (id : BitVec 8) (payload : BitVec 16) : Word :=
  installParity (frameBody (if type = 1 then 1 else 0) id payload)

/-- `buildResponse(type, id, payload16)`: the type as given (rule R94). Its parity is even, and it is a valid response exactly
for types 4 and 5 (rule R103(a), (b)). -/
def buildResponse (type : BitVec 3) (id : BitVec 8) (payload : BitVec 16) : Word :=
  installParity (frameBody (type.setWidth 32) id payload)

/-! ### Validity -/

/-- `isValidRequest(f)` (rule R95). -/
def isValidRequest (f : Word) : Bool :=
  !parity f && (getMessageType f == 0 || getMessageType f == 1)

/-- `isValidResponse(f)` (rule R96). -/
def isValidResponse (f : Word) : Bool :=
  !parity f && (getMessageType f == 4 || getMessageType f == 5)

/-- The predicate a role applies to the frame it received (rules R151, R173). -/
def isValidFor (isSlave : Bool) (f : Word) : Bool :=
  if isSlave then isValidRequest f else isValidResponse f

/-! ### Payload -/

/-- `getUInt(f) = f[15:0]` (rule R97). -/
def getUInt (f : Word) : BitVec 16 := f.extractLsb' 0 16

/-- `getInt(f) = sext_16(f[15:0])` (rule R98). -/
def getInt (f : Word) : Int := (getUInt f).toInt

/-- `getHB(f) = f[15:8]` (rule R99). -/
def getHB (f : Word) : BitVec 8 := f.extractLsb' 8 8

/-- `getLB(f) = f[7:0]` (rule R99). -/
def getLB (f : Word) : BitVec 8 := f.extractLsb' 0 8

/-- `toFixedPointFloat(p) = sext_16(p) / 256`, an exact rational (rule R100). -/
def toFixedPointFloat (p : BitVec 16) : Rat := (p.toInt : Rat) / 256

/-- `getFloat(f)`, another name for `toFixedPointFloat(f[15:0])` (rule R79(g)). -/
def getFloat (f : Word) : Rat := toFixedPointFloat (getUInt f)

/-- The clamp to [0, 100] (rule R101). -/
def clampPercent (t : Rat) : Rat := if t < 0 then 0 else if 100 < t then 100 else t

/-- `fromFixedPointFloat(t) = floor(clamp(t) * 256)` of a finite real (rule R101). -/
def fromFixedPointFloat (t : Rat) : BitVec 16 := BitVec.ofInt 16 (clampPercent t * 256).floor

/-- `temperatureToData`, another name for `fromFixedPointFloat` (rule R102). -/
def temperatureToData (t : Rat) : BitVec 16 := fromFixedPointFloat t

/-- What host software may hand to `fromFixedPointFloat` (93_implementation_defined.md U7). -/
inductive FloatInput where
  | finite (t : Rat)
  | posInfinity
  | negInfinity
  | nan
  deriving DecidableEq, Repr

/-- `fromFixedPointFloat` on every float: the clamp rule gives the infinities, NaN gives any value (U7, log 4). -/
def fromFloatInput : FloatInput → BitVec 16
  | .finite t => fromFixedPointFloat t
  | .posInfinity => fromFixedPointFloat 100
  | .negInfinity => fromFixedPointFloat 0
  | .nan => Config.nanPayload

end Sys2Proof.Machine
end

