-- ==== Sys2Proof/Machine/Ops.lean ====
section
/-! DEFINITION. The operations the meanings share: time differences (rule R10), the outcome of a command (rule R141), the
completion event and its acknowledgement, which are this engine's only exception entry and return (rules R164, R169), and who
holds the register port (rule R49). -/

namespace Sys2Proof.Machine

/-- `elapsed(a, b) = (a - b) mod 2^32`, read as a number (rule R10). -/
def elapsed (a b : Word) : Nat := (a - b).toNat

/-- The time since the last recorded event, on the state before the step (rules R134, R149). -/
def State.sinceEvent (s : State) : Nat := elapsed s.now s.responseTimestamp

/-- `isReady()` on the state itself (rule R79(a)). -/
def State.isReady (s : State) : Bool := s.status == .ready

/-- A command was executed (rule R141). -/
def accept (s : State) : State := { s with cmdOk := true }

/-- A command is refused: `cmd_ok <- 0`, no other change (rule R141). -/
def refuse (s : State) : State := { s with cmdOk := false }

/-- `emit Completion(frame, rs)` with `S.responseStatus <- rs`: the latches are written and `done_valid` pulses; control goes
nowhere (rule R164). -/
def emitCompletion (frame : Word) (rs : ResponseStatus) (s : State) : State :=
  { s with doneFrame := frame, done := true, responseStatus := rs, doneValid := true }

/-- The acknowledgement of a completion event, the only thing that clears `done` but reset (rules R168, R169). -/
def acknowledge (s : State) : State := { s with done := false }

/-- The end of the `done_valid` pulse, one step after the event (rule R164). -/
def endPulse (s : State) : State := { s with doneValid := false }

/-- The host is held: the CMD write of an accepted send occupies the port until the frame has been sent (rule R49). -/
def State.held (s : State) : Bool := s.txBusy

/-- The output `ready` (rules R27, R49). -/
def State.portReady (s : State) : Bool := !s.held

end Sys2Proof.Machine

namespace Sys2Proof

/-- The operations the host issues through its port (rule R5 agent 4); the others happen on the line. -/
def Instr.isHostAccess : Instr → Bool
  | .nop _ | .beginLink _ | .poll _ | .sendRequest _ | .sendResponse _ => true
  | .buildRequest _ _ _ _ | .buildResponse _ _ _ _ => true
  | .cmdReserved7 _ | .cmdReserved8 _ | .cmdReserved9 _ | .cmdReservedA _ | .cmdReservedB _ => true
  | .cmdReservedC _ | .cmdReservedD _ | .cmdReservedE _ | .cmdReservedF _ => true
  | .frameReadData _ _ _ _ | .frameWriteData _ _ _ _ | .frameInvalidData _ _ _ _ => true
  | .frameMsgtypeReserved3 _ _ _ _ | .frameReadAck _ _ _ _ | .frameWriteAck _ _ _ _ => true
  | .frameDataInvalid _ _ _ _ | .frameUnknownDataId _ _ _ _ => true
  | .regCmd _ | .regStatus _ | .regTxdata _ | .regResponse _ | .regRespTs _ | .regNow _ => true
  | .regDoneFrame _ | .regIrqStatus _ | .regIrqEnable _ | .regCodecFrame _ | .regCodecInfo _ => true
  | .regReserved2C _ | .regReserved30 _ | .regReserved34 _ | .regReserved38 _ | .regReserved3C _ => true
  | .wireFrame _ _ _ | .bit1 | .bit0 | .edgeActive | .edgeIdle => false

end Sys2Proof
end

