-- ==== Sys2Proof/Machine/Flags.lean ====
section
/-! DEFINITION. The words and output signals computed from the state: the STATUS snapshot (rule R44), the codec view
CODEC_INFO (rule R48), `irq` (rule R168), the completion outputs (rule R164) and the two line pins (rules R118, R12). -/

namespace Sys2Proof.Machine

/-- The code of a `status` value: its position in the listing (rule R14). -/
def Status.code : Status → BitVec 4
  | .notInitialized => 0
  | .ready => 1
  | .requestSending => 2
  | .responseWaiting => 3
  | .responseStartBit => 4
  | .responseReceiving => 5
  | .responseReady => 6
  | .responseInvalid => 7
  | .delay => 8

/-- The code of a Response Status: its position in the listing (rule R19). -/
def ResponseStatus.code : ResponseStatus → BitVec 2
  | .none => 0
  | .success => 1
  | .invalid => 2
  | .timeout => 3

/-- A line level as a register bit: 1 if ACTIVE (rule R44). -/
def levelBit : Level → BitVec 1
  | .active => 1
  | .idle => 0

/-- The STATUS register (rule R44), bits 31:19 first. -/
def statusWord (s : State) : Word :=
  (0 : BitVec 13) ++ BitVec.ofBool s.lineOe ++ levelBit s.lineOut ++ levelBit s.rxPrev ++ BitVec.ofBool s.done ++
    BitVec.ofBool s.txBusy ++ s.responseBitIndex ++ BitVec.ofBool s.cmdOk ++ s.responseStatus.code ++
    BitVec.ofBool s.isSlave ++ s.status.code

/-- The CODEC_INFO view of a frame (rule R48), bits 31:16 first. -/
def codecInfo (f : Word) : Word :=
  getUInt f ++ getDataId f ++ (0 : BitVec 1) ++ getMessageType f ++ (0 : BitVec 1) ++
    BitVec.ofBool (isValidResponse f) ++ BitVec.ofBool (isValidRequest f) ++ BitVec.ofBool (parity f)

/-- The output `irq = S.done AND S.irq_en` (rule R168). -/
def irq (s : State) : Bool := s.done && s.irqEn

/-- The completion outputs: `done_frame` and `done_status` while `done_valid` is 1 (rules R27, R164). -/
def completionOutput (s : State) : Option (Word × ResponseStatus) :=
  if s.doneValid then some (s.doneFrame, s.responseStatus) else none

/-- The electrical level of a line level on a pin whose ACTIVE level is `activePin`, `true` being high (rules R25, R118). -/
def pinOfLevel (activePin : Bool) : Level → Bool
  | .active => activePin
  | .idle => !activePin

/-- The output pin: high impedance (`none`) when it is not driven (rules R25, R118). -/
def lineOutPin (s : State) : Option Bool :=
  if s.lineOe then some (pinOfLevel s.params.txPinActiveLevel s.lineOut) else none

/-- The level an engine senses when its input pin has this electrical level (rules R12, R26). -/
def senseLevel (s : State) (pin : Bool) : Level := if pin = s.params.rxPinActiveLevel then .active else .idle

end Sys2Proof.Machine
end

