-- ==== Sys2Proof/Machine/Transmit.lean ====
section
/-! DEFINITION. The transmit encoder (41_transmit.md) and the passing of time: the tick of `now`, the transmit agent's step
in the same microsecond, and any number of microseconds. -/

namespace Sys2Proof.Machine

/-- The logical bit of slot `k`: slots 0 and 33 carry 1, slot `k` between them frame bit `32 - k` (rules R63, R112). DESIGN
CHOICE (log 3): the spec does not say what an engine built with another `N_SLOTS` than 34 sends. Its slots carry what these
rules give them, so below 34 its frame ends without the slots left over, and a slot after 33 carries a free value. -/
def slotBit (f : Word) (k : Nat) : Bool :=
  if k = 0 ∨ k = 33 then true else if k ≤ 32 then f.getLsbD (32 - k) else Config.slotBeyondFrame f k

/-- The level of half `p` (0 first, 1 second) of a slot carrying `b`: ACTIVE if `b XOR p` (rules R60, R63). -/
def halfLevel (b : Bool) (p : Nat) : Level := if b != (p == 1) then .active else .idle

/-- `hp_level(f, k)`: the level of half-period `k` of frame `f` (rule R63). -/
def hpLevel (f : Word) (k : Nat) : Level := halfLevel (slotBit f (k / 2)) (k % 2)

/-- The start of a transmission of `txdata` (rule R110). -/
def startTransmission (kind : TxKind) (s : State) : State :=
  { s with
    txFrame := s.txdata
    txKind := kind
    txHp := 0
    txCnt := 0
    txBusy := true
    lineOut := hpLevel s.txdata 0 }

/-- The transmit agent at rest again: the line is returned to idle and the held CMD write completes (rule R117). -/
def endTransmission (s : State) : State :=
  { s with lineOut := .idle, txBusy := false, txHp := 0, txCnt := 0, cmdOk := true }

/-- The final step of a frame: a request arms the receiver, a response leaves READY (rule R117). -/
def finalStep (s : State) : State :=
  match s.txKind with
  | .request => { endTransmission s with status := .responseWaiting, responseTimestamp := s.now }
  | .response => { endTransmission s with status := .ready }

/-- The transmit agent's step (rule R113). -/
def txStep (s : State) : State :=
  if s.txCnt.toNat + 1 < s.params.tHalf then { s with txCnt := s.txCnt + 1 }
  else if s.txHp.toNat < s.params.lastHp then
    { s with txCnt := 0, txHp := s.txHp + 1, lineOut := hpLevel s.txFrame (s.txHp.toNat + 1) }
  else finalStep s

/-- The tick agent (rule R22). -/
def tick (s : State) : State := { s with now := s.now + 1 }

/-- One microsecond: the tick, then the transmit agent if it is enabled (rules R113, R170). -/
def microsecond (s : State) : State :=
  let t := tick s
  if t.txBusy then txStep t else t

/-- `n` microseconds. With the transmit agent idle only `now` moves, so the rest is taken at once. -/
def elapse : Nat → State → State
  | 0, s => s
  | n + 1, s => if s.txBusy then elapse n (microsecond s) else { s with now := s.now + BitVec.ofNat 32 (n + 1) }

/-- How long the frame in flight still holds the host (rules R49, R114). -/
def holdTime (s : State) : Nat :=
  if s.txBusy then (s.params.lastHp + 1 - s.txHp.toNat) * s.params.tHalf - s.txCnt.toNat else 0

end Sys2Proof.Machine
end

