-- ==== Sys2Proof/Machine/Receive.lean ====
section
/-! DEFINITION. The edge detector and the receive state machine (42_receive.md), and the two edge events of the opcode
table. -/

namespace Sys2Proof.Machine

/-- The `status` the handler's second chain sees: a slave's READY is left for RESPONSE_WAITING on an edge to ACTIVE, in the
same step (rule R131). -/
def chainedStatus (lvl : Level) (s : State) : Status :=
  if s.status = .ready ∧ s.isSlave ∧ lvl = .active then .responseWaiting else s.status

/-- RESPONSE_WAITING, and a slave's READY chained into it (rules R126, R131). -/
def edgeWaiting (lvl : Level) (s : State) : State :=
  { s with
    status := if lvl = .active then .responseStartBit else .responseInvalid
    responseTimestamp := s.now }

/-- RESPONSE_START_BIT (rules R127, R128). -/
def edgeStartBit (lvl : Level) (s : State) : State :=
  if s.sinceEvent < s.params.tSample ∧ lvl = .idle then
    { s with status := .responseReceiving, responseBitIndex := 0, responseTimestamp := s.now }
  else { s with status := .responseInvalid, responseTimestamp := s.now }

/-- The accumulator after one sample: shifted left with the inverted sensed level in bit 0 (rule R129). -/
def shiftIn (response : Word) (lvl : Level) : Word :=
  response <<< 1 ||| (if lvl = .idle then 1 else 0)

/-- RESPONSE_RECEIVING (rules R129, R130, R133). -/
def edgeReceiving (lvl : Level) (s : State) : State :=
  if s.params.tSample < s.sinceEvent then
    if s.responseBitIndex.toNat < 32 then
      { s with
        response := shiftIn s.response lvl
        responseBitIndex := s.responseBitIndex + 1
        responseTimestamp := s.now }
    else { s with status := .responseReady, responseTimestamp := s.now }
  else s

/-- The complete handler (rule R134); every status without a row changes nothing (rule R132). -/
def edgeHandler (lvl : Level) (s : State) : State :=
  match chainedStatus lvl s with
  | .responseWaiting => edgeWaiting lvl s
  | .responseStartBit => edgeStartBit lvl s
  | .responseReceiving => edgeReceiving lvl s
  | .notInitialized | .ready | .requestSending | .responseReady | .responseInvalid | .delay => s

/-- One edge event: the detector takes the new level and the handler runs, in one step (rules R26, R125). DEDUCED (log 13): the
event is taken as raised, with no second comparison with `rx_prev`. The detector's own events alternate (`sample`); an edge
operation to the level already held has no such event behind it, and runs the handler all the same, which "does not rely on"
alternating levels and "is total on both values" (rule R125). -/
def edgeEvent (lvl : Level) (s : State) : State := edgeHandler lvl { s with rxPrev := lvl }

/-- The detector's sampling: an edge event if and only if the sampled level differs from `rx_prev` (rule R26). -/
def sample (lvl : Level) (s : State) : State := if s.rxPrev = lvl then s else edgeEvent lvl s

/-- The agents that precede the host in one clock period, in their fixed order: the tick and the transmit agent if the
microsecond boundary falls in it, then the edge agent (rule R170). -/
def clockAgents (boundary : Bool) (lvl : Level) (s : State) : State :=
  sample lvl (if boundary then microsecond s else s)

/-- EDGE_ACTIVE: one sensed transition of the line to ACTIVE (rule R134). -/
def execEdgeActive (s : State) : Result := .next (edgeEvent .active s)

/-- EDGE_IDLE: one sensed transition of the line to IDLE (rule R134). -/
def execEdgeIdle (s : State) : Result := .next (edgeEvent .idle s)

end Sys2Proof.Machine
end

