-- ==== Sys2Proof/Machine/Wire.lean ====
section
/-! DEFINITION. Symbols and frames arriving on the line (rules R60 to R64): each half-period the line takes its level, the
detector samples it, and `T_HALF` microseconds pass, in which the transmit agent runs if it is enabled. -/

namespace Sys2Proof.Machine

/-- One half-period of the line at a level. -/
def halfPeriod (lvl : Level) (s : State) : State := elapse s.params.tHalf (sample lvl s)

/-- One slot carrying `b`: the first half, then the second (rule R60). -/
def slot (s : State) (b : Bool) : State := halfPeriod (halfLevel b 1) (halfPeriod (halfLevel b 0) s)

/-- The bits of the 34 slots in time order (rule R62). -/
def wireBits (start : Bool) (f : Word) (stop : Bool) : List Bool :=
  start :: (List.range 32).map (fun k => f.getLsbD (31 - k)) ++ [stop]

/-- A frame presented to the receiver from `now` on, `RXFRAME f @now` (rules R64, R78). -/
def receiveFrame (start : Bool) (f : Word) (stop : Bool) (s : State) : State :=
  (wireBits start f stop).foldl slot s

/-- Bits that spell no operation. On the line they are a waveform like any other: the receiver gets the slots as they are, or
the two half-periods at one level, and judges edge by edge (rules R75, R198). A misaligned access is refused by name
(rule R52). -/
def presentMisfit (m : Misfit) (s : State) : Result :=
  match m with
  | .startSlotNotOne f stop => .next (receiveFrame false f stop s)
  | .stopSlotNotOne f => .next (receiveFrame true f false s)
  | .flatSymbol lvl => .next (halfPeriod lvl (halfPeriod lvl s))
  | .registerMisaligned => .refused .accessMisaligned

/-- BIT1: a logical 1 in one slot (rule R60). -/
def execBit1 (s : State) : Result := .next (slot s true)

/-- BIT0: a logical 0 in one slot (rule R60). -/
def execBit0 (s : State) : Result := .next (slot s false)

/-- WIRE_FRAME: 34 slots (rule R62). A stop slot of 0 is presented as it is; the receiver does not check it (rule R198). -/
def execWireFrame (start : Bool) (f : Word) (stop : Bool) (s : State) : Result :=
  .next (receiveFrame start f stop s)

end Sys2Proof.Machine
end

