-- ==== Sys2Proof/Machine/Session.lean ====
section
/-! DEFINITION. The host commands (43_session.md): what each does to the state, and the meaning of each command row. Bits
27:0 are ignored by every command but the two builders (rule R70). -/

namespace Sys2Proof.Machine

/-! ### The commands -/

/-- BEGIN (rule R142). -/
def cmdBegin (s : State) : State :=
  if s.status = .notInitialized then accept { s with lineOe := true, lineOut := .idle, status := .ready }
  else refuse s

/-- The acceptance step of a send: the status moves to REQUEST_SENDING, `response` is cleared and the transmission starts;
`cmd_ok` is written by the final step (rules R144, R147). -/
def acceptSend (kind : TxKind) (s : State) : State :=
  startTransmission kind { s with status := .requestSending, response := 0 }

/-- SEND_REQUEST (rules R143, R144). -/
def cmdSendRequest (s : State) : State :=
  if s.status = .ready then acceptSend .request s else refuse s

/-- SEND_RESPONSE (rules R146, R147). -/
def cmdSendResponse (s : State) : State :=
  if s.status = .notInitialized then refuse s else acceptSend .response s

/-- The part of POLL that depends on `status`: one of rules R150 to R153 or nothing (rule R149). -/
def pollEffect (s : State) : State :=
  match s.status with
  | .responseWaiting | .responseStartBit | .responseReceiving =>
    if s.params.tTimeout < s.sinceEvent then emitCompletion s.response .timeout { s with status := .ready } else s
  | .responseInvalid => emitCompletion s.response .invalid { s with status := .delay }
  | .responseReady =>
    emitCompletion s.response (if isValidFor s.isSlave s.response then .success else .invalid) { s with status := .delay }
  | .delay => if s.params.tDelay < s.sinceEvent then { s with status := .ready } else s
  | .notInitialized | .ready | .requestSending => s

/-- POLL, never refused (rules R148, R149). -/
def cmdPoll (s : State) : State := accept (pollEffect s)

/-! ### The meanings of the command rows -/

/-- NOP (rule R157). -/
def execNop (_ign : BitVec 28) (s : State) : Result := .next (accept s)

/-- BEGIN (rule R142). -/
def execBegin (_ign : BitVec 28) (s : State) : Result := .next (cmdBegin s)

/-- POLL (rule R149). -/
def execPoll (_ign : BitVec 28) (s : State) : Result := .next (cmdPoll s)

/-- SEND_REQUEST (rules R143, R144). -/
def execSendRequest (_ign : BitVec 28) (s : State) : Result := .next (cmdSendRequest s)

/-- SEND_RESPONSE (rules R146, R147). -/
def execSendResponse (_ign : BitVec 28) (s : State) : Result := .next (cmdSendResponse s)

/-- BUILD_REQUEST (rule R155). -/
def execBuildRequest (_rsv : BitVec 1) (type : BitVec 3) (id : BitVec 8) (data : BitVec 16) (s : State) : Result :=
  .next (accept { s with txdata := buildRequest type id data })

/-- BUILD_RESPONSE (rule R156). -/
def execBuildResponse (_rsv : BitVec 1) (type : BitVec 3) (id : BitVec 8) (data : BitVec 16) (s : State) : Result :=
  .next (accept { s with txdata := buildResponse type id data })

/-- Reserved opcode 0x7: refused (rule R73). -/
def execCmdReserved7 (_ign : BitVec 28) (s : State) : Result := .next (refuse s)

/-- Reserved opcode 0x8: refused (rule R73). -/
def execCmdReserved8 (_ign : BitVec 28) (s : State) : Result := .next (refuse s)

/-- Reserved opcode 0x9: refused (rule R73). -/
def execCmdReserved9 (_ign : BitVec 28) (s : State) : Result := .next (refuse s)

/-- Reserved opcode 0xA: refused (rule R73). -/
def execCmdReservedA (_ign : BitVec 28) (s : State) : Result := .next (refuse s)

/-- Reserved opcode 0xB: refused (rule R73). -/
def execCmdReservedB (_ign : BitVec 28) (s : State) : Result := .next (refuse s)

/-- Reserved opcode 0xC: refused (rule R73). -/
def execCmdReservedC (_ign : BitVec 28) (s : State) : Result := .next (refuse s)

/-- Reserved opcode 0xD: refused (rule R73). -/
def execCmdReservedD (_ign : BitVec 28) (s : State) : Result := .next (refuse s)

/-- Reserved opcode 0xE: refused (rule R73). -/
def execCmdReservedE (_ign : BitVec 28) (s : State) : Result := .next (refuse s)

/-- Reserved opcode 0xF: refused (rule R73). -/
def execCmdReservedF (_ign : BitVec 28) (s : State) : Result := .next (refuse s)

/-- `MemWrite(BASE + 0x00, 4, w)`: exactly one command, by the opcode in bits 31:28 (rules R42, R140). -/
def runCommand (w : Word) (s : State) : Result :=
  let rest := w.extractLsb' 0 28
  let rsv := w.extractLsb' 27 1
  let type := w.extractLsb' 24 3
  let id := w.extractLsb' 16 8
  let data := w.extractLsb' 0 16
  match (w.extractLsb' 28 4).toNat with
  | 0 => execNop rest s
  | 1 => execBegin rest s
  | 2 => execPoll rest s
  | 3 => execSendRequest rest s
  | 4 => execSendResponse rest s
  | 5 => execBuildRequest rsv type id data s
  | 6 => execBuildResponse rsv type id data s
  | 7 => execCmdReserved7 rest s
  | 8 => execCmdReserved8 rest s
  | 9 => execCmdReserved9 rest s
  | 10 => execCmdReservedA rest s
  | 11 => execCmdReservedB rest s
  | 12 => execCmdReservedC rest s
  | 13 => execCmdReservedD rest s
  | 14 => execCmdReservedE rest s
  | _ => execCmdReservedF rest s

end Sys2Proof.Machine
end

