-- ==== Sys2Proof/Machine/Operands.lean ====
section
/-! DEFINITION. The register window and its access forms (20_memory.md): what each of the sixteen words reads as, what a read
and an ignored write do, and the bus bridge in front of the port (rule R52). -/

namespace Sys2Proof.Machine

/-- What word `index` of the window reads as (rules R41 to R48, R54). Reads change nothing (rule R53). -/
def regValue (index : BitVec 4) (s : State) : Word :=
  match index.toNat with
  | 1 => statusWord s
  | 2 => s.txdata
  | 3 => s.response
  | 4 => s.responseTimestamp
  | 5 => s.now
  | 6 => s.doneFrame
  | 7 => (BitVec.ofBool s.done).setWidth 32
  | 8 => (BitVec.ofBool s.irqEn).setWidth 32
  | 9 => s.codecFrame
  | 10 => codecInfo s.codecFrame
  | _ => 0

/-- A read: the word is returned on `rdata` and nothing else changes (rules R49, R53, log 8). -/
def readReg (index : BitVec 4) (s : State) : State := { s with rdata := regValue index s }

/-- The step of a read. -/
def readWord (index : BitVec 4) (s : State) : Result := .next (readReg index s)

/-- A write to a read-only or reserved register: ignored (rules R53, R54). -/
def ignoreWrite (s : State) : Result := .next s

/-- A register that is only read. -/
def readOnly (index : BitVec 4) (a : Access) (s : State) : Result :=
  match a with
  | .read => readWord index s
  | .write _ => ignoreWrite s

/-- The bus bridge (rules R40, R52, R54): an aligned 4-byte access inside the window reaches the port as its word index;
anything else is refused by name before it gets there. -/
def bridge (we : Bool) (addr n : Nat) (wdata : Word) : Except Refusal PortRequest :=
  if n ≠ 4 then .error .accessWidth
  else if addr % 4 ≠ 0 then .error .accessMisaligned
  else if addr < Config.base ∨ Config.base + 64 ≤ addr then .error .accessOutsideWindow
  else .ok
    { index := BitVec.ofNat 4 ((addr - Config.base) / 4)
      access := if we then .write wdata else .read }

end Sys2Proof.Machine
end

