-- ==== Sys2Proof/Machine/Registers.lean ====
section
/-! DEFINITION. The meaning of an access to each register of the window (rules R41 to R48, R54). -/

namespace Sys2Proof.Machine

/-- CMD: a write executes the command it encodes, a read returns 0 (rule R42). -/
def execRegCmd (a : Access) (s : State) : Result :=
  match a with
  | .read => readWord 0 s
  | .write w => runCommand w s

/-- STATUS, read-only (rule R44). -/
def execRegStatus (a : Access) (s : State) : Result := readOnly 1 a s

/-- TXDATA, read and write, no bit checked (rule R43). -/
def execRegTxdata (a : Access) (s : State) : Result :=
  match a with
  | .read => readWord 2 s
  | .write v => .next { s with txdata := v }

/-- RESPONSE, read-only (rule R45). -/
def execRegResponse (a : Access) (s : State) : Result := readOnly 3 a s

/-- RESP_TS, read-only (rule R45). -/
def execRegRespTs (a : Access) (s : State) : Result := readOnly 4 a s

/-- NOW, read-only (rule R45). -/
def execRegNow (a : Access) (s : State) : Result := readOnly 5 a s

/-- DONE_FRAME, read-only (rule R46). -/
def execRegDoneFrame (a : Access) (s : State) : Result := readOnly 6 a s

/-- IRQ_STATUS: writing 1 to bit 0 acknowledges the completion; the other bits are ignored (rule R47). -/
def execRegIrqStatus (a : Access) (s : State) : Result :=
  match a with
  | .read => readWord 7 s
  | .write v => .next (if v.getLsbD 0 then acknowledge s else s)

/-- IRQ_ENABLE: bit 0 is `irq_en` (rule R47). -/
def execRegIrqEnable (a : Access) (s : State) : Result :=
  match a with
  | .read => readWord 8 s
  | .write v => .next { s with irqEn := v.getLsbD 0 }

/-- CODEC_FRAME, read and write (rule R48). -/
def execRegCodecFrame (a : Access) (s : State) : Result :=
  match a with
  | .read => readWord 9 s
  | .write v => .next { s with codecFrame := v }

/-- CODEC_INFO, read-only (rule R48). -/
def execRegCodecInfo (a : Access) (s : State) : Result := readOnly 10 a s

/-- Reserved offset 0x2C: reads 0, ignores writes (rule R54). -/
def execRegReserved2C (a : Access) (s : State) : Result := readOnly 11 a s

/-- Reserved offset 0x30: reads 0, ignores writes (rule R54). -/
def execRegReserved30 (a : Access) (s : State) : Result := readOnly 12 a s

/-- Reserved offset 0x34: reads 0, ignores writes (rule R54). -/
def execRegReserved34 (a : Access) (s : State) : Result := readOnly 13 a s

/-- Reserved offset 0x38: reads 0, ignores writes (rule R54). -/
def execRegReserved38 (a : Access) (s : State) : Result := readOnly 14 a s

/-- Reserved offset 0x3C: reads 0, ignores writes (rule R54). -/
def execRegReserved3C (a : Access) (s : State) : Result := readOnly 15 a s

end Sys2Proof.Machine
end

