-- ==== Sys2Proof/Machine/Frames.lean ====
section
/-! DEFINITION. The meaning of a frame word: it is given to the codec, which is the hardware form of the codec functions
(rule R79(f): `WR CODEC_FRAME, f` and `RD CODEC_INFO`; rule R48). The word is CODEC_FRAME's from then on, and its parity,
message type, data-id, payload and validity as a request and as a response are what CODEC_INFO reads (log 9). -/

namespace Sys2Proof.Machine

/-- `WR CODEC_FRAME, f` and `RD CODEC_INFO` (rule R79(f)). -/
def inspectFrame (f : Word) (s : State) : State := { s with codecFrame := f, rdata := codecInfo f }

/-- FRAME word of message type 0, READ_DATA: a request when its parity is even (rules R66, R95, R96). -/
def execFrameReadData (p : BitVec 1) (spare : BitVec 4) (id : BitVec 8) (payload : BitVec 16) (s : State) : Result :=
  .next (inspectFrame (frameWord p 0 spare id payload) s)

/-- FRAME word of message type 1, WRITE_DATA: a request when its parity is even (rules R66, R95, R96). -/
def execFrameWriteData (p : BitVec 1) (spare : BitVec 4) (id : BitVec 8) (payload : BitVec 16) (s : State) : Result :=
  .next (inspectFrame (frameWord p 1 spare id payload) s)

/-- FRAME word of message type 2, INVALID_DATA: valid as neither (rules R66, R95, R96). -/
def execFrameInvalidData (p : BitVec 1) (spare : BitVec 4) (id : BitVec 8) (payload : BitVec 16) (s : State) : Result :=
  .next (inspectFrame (frameWord p 2 spare id payload) s)

/-- FRAME word of message type 3, reserved type 3: valid as neither (rules R66, R95, R96). -/
def execFrameMsgtypeReserved3 (p : BitVec 1) (spare : BitVec 4) (id : BitVec 8) (payload : BitVec 16) (s : State) : Result :=
  .next (inspectFrame (frameWord p 3 spare id payload) s)

/-- FRAME word of message type 4, READ_ACK: a response when its parity is even (rules R66, R95, R96). -/
def execFrameReadAck (p : BitVec 1) (spare : BitVec 4) (id : BitVec 8) (payload : BitVec 16) (s : State) : Result :=
  .next (inspectFrame (frameWord p 4 spare id payload) s)

/-- FRAME word of message type 5, WRITE_ACK: a response when its parity is even (rules R66, R95, R96). -/
def execFrameWriteAck (p : BitVec 1) (spare : BitVec 4) (id : BitVec 8) (payload : BitVec 16) (s : State) : Result :=
  .next (inspectFrame (frameWord p 5 spare id payload) s)

/-- FRAME word of message type 6, DATA_INVALID: valid as neither (rules R66, R95, R96). -/
def execFrameDataInvalid (p : BitVec 1) (spare : BitVec 4) (id : BitVec 8) (payload : BitVec 16) (s : State) : Result :=
  .next (inspectFrame (frameWord p 6 spare id payload) s)

/-- FRAME word of message type 7, UNKNOWN_DATA_ID: valid as neither (rules R66, R95, R96). -/
def execFrameUnknownDataId (p : BitVec 1) (spare : BitVec 4) (id : BitVec 8) (payload : BitVec 16) (s : State) : Result :=
  .next (inspectFrame (frameWord p 7 spare id payload) s)

end Sys2Proof.Machine
end

