-- ==== Sys2Proof/Machine/Dispatch.lean ====
section
/-! DEFINITION. Which meaning each operation has: one arm per constructor of Instr. -/

namespace Sys2Proof.Machine

def exec (i : Instr) (s : State) : Host.Outcome State Fault Refusal :=
  match i with
  | .nop ign => Sys2Proof.Machine.execNop ign s
  | .beginLink ign => Sys2Proof.Machine.execBegin ign s
  | .poll ign => Sys2Proof.Machine.execPoll ign s
  | .sendRequest ign => Sys2Proof.Machine.execSendRequest ign s
  | .sendResponse ign => Sys2Proof.Machine.execSendResponse ign s
  | .buildRequest rsv type id data => Sys2Proof.Machine.execBuildRequest rsv type id data s
  | .buildResponse rsv type id data => Sys2Proof.Machine.execBuildResponse rsv type id data s
  | .cmdReserved7 ign => Sys2Proof.Machine.execCmdReserved7 ign s
  | .cmdReserved8 ign => Sys2Proof.Machine.execCmdReserved8 ign s
  | .cmdReserved9 ign => Sys2Proof.Machine.execCmdReserved9 ign s
  | .cmdReservedA ign => Sys2Proof.Machine.execCmdReservedA ign s
  | .cmdReservedB ign => Sys2Proof.Machine.execCmdReservedB ign s
  | .cmdReservedC ign => Sys2Proof.Machine.execCmdReservedC ign s
  | .cmdReservedD ign => Sys2Proof.Machine.execCmdReservedD ign s
  | .cmdReservedE ign => Sys2Proof.Machine.execCmdReservedE ign s
  | .cmdReservedF ign => Sys2Proof.Machine.execCmdReservedF ign s
  | .frameReadData p spare id payload => Sys2Proof.Machine.execFrameReadData p spare id payload s
  | .frameWriteData p spare id payload => Sys2Proof.Machine.execFrameWriteData p spare id payload s
  | .frameInvalidData p spare id payload => Sys2Proof.Machine.execFrameInvalidData p spare id payload s
  | .frameMsgtypeReserved3 p spare id payload => Sys2Proof.Machine.execFrameMsgtypeReserved3 p spare id payload s
  | .frameReadAck p spare id payload => Sys2Proof.Machine.execFrameReadAck p spare id payload s
  | .frameWriteAck p spare id payload => Sys2Proof.Machine.execFrameWriteAck p spare id payload s
  | .frameDataInvalid p spare id payload => Sys2Proof.Machine.execFrameDataInvalid p spare id payload s
  | .frameUnknownDataId p spare id payload => Sys2Proof.Machine.execFrameUnknownDataId p spare id payload s
  | .wireFrame start f stop => Sys2Proof.Machine.execWireFrame start f stop s
  | .bit1 => Sys2Proof.Machine.execBit1 s
  | .bit0 => Sys2Proof.Machine.execBit0 s
  | .edgeActive => Sys2Proof.Machine.execEdgeActive s
  | .edgeIdle => Sys2Proof.Machine.execEdgeIdle s
  | .regCmd a => Sys2Proof.Machine.execRegCmd a s
  | .regStatus a => Sys2Proof.Machine.execRegStatus a s
  | .regTxdata a => Sys2Proof.Machine.execRegTxdata a s
  | .regResponse a => Sys2Proof.Machine.execRegResponse a s
  | .regRespTs a => Sys2Proof.Machine.execRegRespTs a s
  | .regNow a => Sys2Proof.Machine.execRegNow a s
  | .regDoneFrame a => Sys2Proof.Machine.execRegDoneFrame a s
  | .regIrqStatus a => Sys2Proof.Machine.execRegIrqStatus a s
  | .regIrqEnable a => Sys2Proof.Machine.execRegIrqEnable a s
  | .regCodecFrame a => Sys2Proof.Machine.execRegCodecFrame a s
  | .regCodecInfo a => Sys2Proof.Machine.execRegCodecInfo a s
  | .regReserved2C a => Sys2Proof.Machine.execRegReserved2C a s
  | .regReserved30 a => Sys2Proof.Machine.execRegReserved30 a s
  | .regReserved34 a => Sys2Proof.Machine.execRegReserved34 a s
  | .regReserved38 a => Sys2Proof.Machine.execRegReserved38 a s
  | .regReserved3C a => Sys2Proof.Machine.execRegReserved3C a s

end Sys2Proof.Machine
end

