-- ==== Sys2Proof/Machine/Step.lean ====
section
/-! DEFINITION. One step of the engine: the next thing the outside world presents, taken whole before anything else (rules
R50, R56). With nothing presented only time passes. -/

namespace Sys2Proof.Machine

/-- Run the host access on the port, unless the host is held: then it is not taken, and the host presents it again
(rule R49). -/
def hostTurn (port : Option PortRequest) (s : State) : Result :=
  match port with
  | none => .next s
  | some p => if s.held then .next s else exec (regInstr p.index p.access) s

/-- One clock period in the fixed order of rule R170. -/
def clockPeriod (boundary : Bool) (lvl : Level) (port : Option PortRequest) (s : State) : Result :=
  hostTurn port (clockAgents boundary lvl s)

/-- One step on a state whose `done_valid` pulse has ended. A host access presented while the host is held waits at the head
of `inputs`, and the step is the passing of a microsecond (rule R49). -/
def stepOn (s : State) : Result :=
  match s.inputs with
  | [] => .next (microsecond s)
  | .word b :: rest =>
    match decodeBits b with
    | .error m => presentMisfit m { s with inputs := rest }
    | .ok i => if i.isHostAccess && s.held then .next (microsecond s) else exec i { s with inputs := rest }
  | .wait us :: rest => .next (elapse us { s with inputs := rest })
  | .clock boundary lvl port :: rest => clockPeriod boundary lvl port { s with inputs := rest }
  | .bus we addr n wdata :: rest =>
    match bridge we addr n wdata with
    | .error r => .refused r
    | .ok p => if s.held then .next (microsecond s) else exec (regInstr p.index p.access) { s with inputs := rest }
  | .reset strap :: rest => .next { State.resetWith s.params strap with inputs := rest }

/-- One step of the engine; the `done_valid` pulse of the step before it has ended (rule R164). -/
def step (s : State) : Host.Outcome State Fault Refusal := stepOn (endPulse s)

/-- `s` with one operation presented next: the word as the opcode table numbers it, on the interface its width names. Nothing
is presented for a width that is no row's. -/
def State.withFetchWord (s : State) (nbits w : Nat) : State :=
  match tableBits nbits w with
  | some b => { s with inputs := .word b :: s.inputs }
  | none => s

end Sys2Proof.Machine
end

