-- ==== Sys2Proof/Laws/Codec.lean ====
section
/-! SUPPORT. The parity of a word as exclusive or of its bits, and the fields of a built frame (rules R90 to R94, R105). -/

namespace Sys2Proof.Machine

/-- The exclusive or of the bits below `k`. -/
def xorBelow (f : Word) : Nat → Bool
  | 0 => false
  | k + 1 => xorBelow f k != f.getLsbD k

theorem onesBelow_odd (f : Word) (k : Nat) : (onesBelow f k % 2 == 1) = xorBelow f k := by
  induction k with
  | zero => rfl
  | succ k ih =>
    rw [onesBelow, xorBelow, ← ih]
    rcases Nat.mod_two_eq_zero_or_one (onesBelow f k) with h | h <;> cases f.getLsbD k <;> simp [h, Nat.add_mod]

/-- `popcount mod 2` "equals the XOR of all 32 bits" (rule R90). -/
theorem parity_eq_xor (f : Word) : parity f = xorBelow f 32 := onesBelow_odd f 32

theorem xorBelow_xor (f g : Word) (k : Nat) : xorBelow (f ^^^ g) k = (xorBelow f k != xorBelow g k) := by
  induction k with
  | zero => rfl
  | succ k ih =>
    simp only [xorBelow, ih, BitVec.getLsbD_xor]
    cases xorBelow f k <;> cases xorBelow g k <;> cases f.getLsbD k <;> cases g.getLsbD k <;> rfl

/-- Parity is a homomorphism: flipping a set of bits flips the parity by the parity of the set (rules R103(c), R105). -/
theorem parity_xor (f g : Word) : parity (f ^^^ g) = (parity f != parity g) := by
  simp only [parity_eq_xor, xorBelow_xor]

/-- A single bit has parity 1. -/
theorem parity_one_bit (k : Nat) (h : k < 32) : parity (1#32 <<< k) = true := by
  have : ∀ k : Fin 32, parity (1#32 <<< k.val) = true := by decide
  exact this ⟨k, h⟩

/-- A frame body never holds the parity bit (rules R93, R94). -/
theorem frameBody_bit31 (type : BitVec 3) (id : BitVec 8) (payload : BitVec 16) :
    (frameBody (type.setWidth 32) id payload).getLsbD 31 = false := by
  simp [frameBody]

/-- Installing the parity bit of a word whose bit 31 is 0 makes the parity even (rule R69). -/
theorem parity_installParity {g : Word} (h : g.getLsbD 31 = false) : parity (installParity g) = false := by
  have e : installParity g = g ^^^ ((BitVec.ofBool (parity g)).setWidth 32 <<< 31) := by
    unfold installParity
    ext i hi
    simp only [BitVec.getElem_or, BitVec.getElem_xor]
    by_cases k : i = 31
    · subst k; simp [← BitVec.getLsbD_eq_getElem, h]
    · have : i < 31 := by omega
      simp [this]
  rw [e, parity_xor]
  cases parity g <;> decide

/-- The fields below the parity bit are not touched by installing it. -/
theorem installParity_extract (g : Word) (start len : Nat) (h : start + len ≤ 31) :
    (installParity g).extractLsb' start len = g.extractLsb' start len := by
  unfold installParity
  ext i hi
  have : start + i < 31 := by omega
  simp [this]

/-- Building as a request only knows two types (rule R93). -/
theorem buildRequest_eq (type : BitVec 3) (id : BitVec 8) (payload : BitVec 16) :
    buildRequest type id payload = buildResponse (if type = 1 then 1 else 0) id payload := by
  unfold buildRequest buildResponse
  split <;> rfl

/-- The fields of a built frame: parity even, the type, SPARE zero, the id, the payload (rule R94). -/
theorem buildResponse_fields (type : BitVec 3) (id : BitVec 8) (payload : BitVec 16) :
    parity (buildResponse type id payload) = false ∧ getMessageType (buildResponse type id payload) = type ∧
    (buildResponse type id payload).extractLsb' 24 4 = 0 ∧ getDataId (buildResponse type id payload) = id ∧
    getUInt (buildResponse type id payload) = payload := by
  refine ⟨parity_installParity (frameBody_bit31 type id payload), ?_, ?_, ?_, ?_⟩ <;>
    simp only [buildResponse, getMessageType, getDataId, getUInt]
  · rw [installParity_extract _ 28 3 (by decide)]
    ext i hi
    have far : payload.getLsbD (28 + i) = false ∧ id.getLsbD (28 + i - 16) = false :=
      ⟨BitVec.getLsbD_of_ge _ _ (by omega), BitVec.getLsbD_of_ge _ _ (by omega)⟩
    have low : ¬ 28 + i < 28 ∧ 28 + i < 32 ∧ i < 32 := by omega
    simp [frameBody, far, low, hi]
  · rw [installParity_extract _ 24 4 (by decide)]
    ext i hi
    have far : payload.getLsbD (24 + i) = false ∧ id.getLsbD (24 + i - 16) = false :=
      ⟨BitVec.getLsbD_of_ge _ _ (by omega), BitVec.getLsbD_of_ge _ _ (by omega)⟩
    have low : 24 + i < 28 := by omega
    simp [frameBody, far, low]
  · rw [installParity_extract _ 16 8 (by decide)]
    ext i hi
    have low : 16 + i < 28 ∧ 16 + i < 32 ∧ i < 32 := by omega
    have shift : 16 + i - 16 = i := by omega
    simp [frameBody, low, shift, BitVec.getLsbD_eq_getElem hi]
  · rw [installParity_extract _ 0 16 (by decide)]
    ext i hi
    have low : i < 28 ∧ i < 32 := by omega
    simp [frameBody, low, hi]

end Sys2Proof.Machine
end

