-- ==== Sys2Proof/Laws/Decode.lean ====
section
/-! SUPPORT. The byte lanes of a word give the word back (rule R51), and the fields of each layout are read where they were
written (rules R62, R65, R70). -/

namespace Sys2Proof

/-- The high part of an append, read back. -/
theorem extract_append_high {m n : Nat} (a : BitVec m) (b : BitVec n) : (a ++ b).extractLsb' n m = a := by
  apply BitVec.eq_of_getLsbD_eq
  intro i hi
  simp [BitVec.getLsbD_append, hi]

/-- A field inside the low part of an append is the low part's. -/
theorem extract_append_low {m n : Nat} (a : BitVec m) (b : BitVec n) (start len : Nat) (h : start + len ≤ n) :
    (a ++ b).extractLsb' start len = b.extractLsb' start len := by
  apply BitVec.eq_of_getLsbD_eq
  intro i hi
  have : start + i < n := by omega
  simp [BitVec.getLsbD_append, this]

/-- A field inside the high part of an append is the high part's, counted from its own bit 0. -/
theorem extract_append_above {m n : Nat} (a : BitVec m) (b : BitVec n) (start len : Nat) (h : n ≤ start) :
    (a ++ b).extractLsb' start len = a.extractLsb' (start - n) len := by
  apply BitVec.eq_of_getLsbD_eq
  intro i hi
  have : ¬ start + i < n := by omega
  simp [BitVec.getLsbD_append, this, Nat.sub_add_comm h]

theorem wordOfLanes_byteLanes (w : Word) :
    wordOfLanes (byteLane w 0) (byteLane w 1) (byteLane w 2) (byteLane w 3) = w := by
  apply BitVec.eq_of_getLsbD_eq
  intro i hi
  simp only [wordOfLanes, byteLane, BitVec.getLsbD_append, BitVec.getLsbD_extractLsb']
  split_ifs
  · simp [*]
  · have : 8 + (i - 8) = i := by omega
    simp [*]
  · have : 16 + (i - 8 - 8) = i := by omega
    simp [*]
  · have : 24 + (i - 8 - 8 - 8) = i := by omega
    have : i - 8 - 8 - 8 < 8 := by omega
    simp [*]

/-! ### The command word -/

theorem cmdWord_opc (opc : BitVec 4) (rest : BitVec 28) : (cmdWord opc rest).extractLsb' 28 4 = opc :=
  extract_append_high opc rest

theorem cmdWord_low (opc : BitVec 4) (rest : BitVec 28) (start len : Nat) (h : start + len ≤ 28) :
    (cmdWord opc rest).extractLsb' start len = rest.extractLsb' start len :=
  extract_append_low opc rest start len h

theorem cmdWord_rest (opc : BitVec 4) (rest : BitVec 28) : (cmdWord opc rest).extractLsb' 0 28 = rest := by
  rw [cmdWord_low _ _ _ _ (by decide)]
  simp

/-- The operand fields of a BUILD command (rule R70). -/
theorem buildRest_fields (rsv : BitVec 1) (type : BitVec 3) (id : BitVec 8) (data : BitVec 16) :
    (buildRest rsv type id data).extractLsb' 27 1 = rsv ∧ (buildRest rsv type id data).extractLsb' 24 3 = type ∧
    (buildRest rsv type id data).extractLsb' 16 8 = id ∧ (buildRest rsv type id data).extractLsb' 0 16 = data := by
  unfold buildRest
  refine ⟨?_, ?_, ?_, ?_⟩
  · rw [extract_append_above _ _ _ _ (by decide), extract_append_above _ _ _ _ (by decide)]
    exact extract_append_high rsv type
  · rw [extract_append_above _ _ _ _ (by decide), extract_append_above _ _ _ _ (by decide),
      extract_append_low _ _ _ _ (by decide)]
    simp
  · rw [extract_append_above _ _ _ _ (by decide), extract_append_low _ _ _ _ (by decide)]
    simp
  · rw [extract_append_low _ _ _ _ (by decide)]
    simp

/-! ### The frame word -/

/-- The fields of a frame word (rule R65). -/
theorem frameWord_fields (p : BitVec 1) (type : BitVec 3) (spare : BitVec 4) (id : BitVec 8) (payload : BitVec 16) :
    (frameWord p type spare id payload).extractLsb' 31 1 = p ∧
    (frameWord p type spare id payload).extractLsb' 28 3 = type ∧
    (frameWord p type spare id payload).extractLsb' 24 4 = spare ∧
    (frameWord p type spare id payload).extractLsb' 16 8 = id ∧
    (frameWord p type spare id payload).extractLsb' 0 16 = payload := by
  unfold frameWord
  refine ⟨?_, ?_, ?_, ?_, ?_⟩
  · rw [extract_append_above _ _ _ _ (by decide), extract_append_above _ _ _ _ (by decide),
      extract_append_above _ _ _ _ (by decide)]
    exact extract_append_high p type
  · rw [extract_append_above _ _ _ _ (by decide), extract_append_above _ _ _ _ (by decide),
      extract_append_above _ _ _ _ (by decide), extract_append_low _ _ _ _ (by decide)]
    simp
  · rw [extract_append_above _ _ _ _ (by decide), extract_append_above _ _ _ _ (by decide),
      extract_append_low _ _ _ _ (by decide)]
    simp
  · rw [extract_append_above _ _ _ _ (by decide), extract_append_low _ _ _ _ (by decide)]
    simp
  · rw [extract_append_low _ _ _ _ (by decide)]
    simp

/-! ### The wire frame -/

/-- The slots of a wire frame (rule R62). -/
theorem wireWord_slots (start : Bool) (f : Word) (stop : Bool) :
    (wireWord start f stop).getLsbD 33 = start ∧ (wireWord start f stop).getLsbD 0 = stop ∧
    (wireWord start f stop).extractLsb' 1 32 = f := by
  unfold wireWord
  refine ⟨?_, ?_, ?_⟩
  · rw [BitVec.getLsbD_append, BitVec.getLsbD_append]; simp
  · rw [BitVec.getLsbD_append]; simp
  · rw [extract_append_above _ _ _ _ (by decide), extract_append_low _ _ _ _ (by decide)]
    simp

/-- The five lanes of a wire frame give its 34 bits back. -/
theorem wire_lanes (v : BitVec 34) :
    ((v.extractLsb' 32 2).setWidth 8).extractLsb' 2 6 = (0 : BitVec 6) ∧
    ((v.extractLsb' 32 2).setWidth 8).extractLsb' 0 2 ++ v.extractLsb' 0 32 = v := by
  constructor
  · apply BitVec.eq_of_getLsbD_eq
    intro i hi
    simp
  · apply BitVec.eq_of_getLsbD_eq
    intro i hi
    simp only [BitVec.getLsbD_append, BitVec.getLsbD_extractLsb', BitVec.getLsbD_setWidth]
    by_cases h : i < 32
    · simp [h]
    · have a : i - 32 < 2 ∧ i - 32 < 8 := by omega
      have b : 32 + (i - 32) = i := by omega
      simp [h, a, b]

/-! ### The bytes of an interface, read back -/

/-- No bit of an interface is lost in its bytes (rules R51, R77). -/
theorem framed_bytesOf (b : Bits) : framed (bytesOf b).1 (bytesOf b).2 = .ok b := by
  cases b with
  | cmd w => simp only [bytesOf, wordBytes, framed, wordOfLanes_byteLanes]
  | frame w => simp only [bytesOf, wordBytes, framed, wordOfLanes_byteLanes]
  | wire v =>
    simp only [bytesOf, wordBytes, List.cons_append, List.nil_append, framed, wordOfLanes_byteLanes, wire_lanes]
    simp
  | symbol v => revert v; decide
  | event v => revert v; decide
  | reg offset a =>
    have lanes : ∀ k : BitVec 6, (k.setWidth 8).extractLsb' 6 2 = 0#2 ∧ (k.setWidth 8).extractLsb' 0 6 = k := by decide
    obtain ⟨high, low⟩ := lanes offset
    cases a <;> simp [bytesOf, wordBytes, framed, framedAccess, high, low, wordOfLanes_byteLanes]

/-- Decoding bytes is decoding the bits they stand for. -/
theorem decode_bytesOf {b : Bits} {i : Instr} (h : decodeBits b = .ok i) : decode (bytesOf b).1 (bytesOf b).2 = .ok i := by
  simp only [decode, framed_bytesOf, h]

/-- Bits that spell no operation are rejected by that name. -/
theorem decode_bytesOf_misfit {b : Bits} {m : Misfit} (h : decodeBits b = .error m) :
    decode (bytesOf b).1 (bytesOf b).2 = .error (.misfit m) := by
  simp only [decode, framed_bytesOf, h]

/-- A register access is read back from its bits (rule R41). -/
theorem decodeBits_reg (index : BitVec 4) (a : Access) : decodeBits (regBits index a) = .ok (regInstr index a) := by
  have offset : ∀ k : BitVec 4, (k ++ (0#2)).extractLsb' 0 2 = 0#2 ∧ (k ++ (0#2)).extractLsb' 2 4 = k := by decide
  obtain ⟨low, mid⟩ := offset index
  simp [regBits, decodeBits, decodeReg, low, mid]

end Sys2Proof
end

