-- ==== Sys2Proof/Laws/PerInstr.lean ====
section
/-! SUPPORT. Facts about every operation as syntax, one lemma per constructor: decoding the encoding of a well-formed
operation gives it back. -/

namespace Sys2Proof.Laws.EncodingRoundTrip

/-- Decoding what `encode` writes gives the operation back. -/
def Statement (i : Instr) : Prop := i.wf = true → decode (encode i).1 (encode i).2 = .ok i

/-- From the bits to the bytes. -/
theorem of_bits {i : Instr} (d : decodeBits (bitsOf i) = .ok i) : Statement i := fun _ => decode_bytesOf d

/-- A command with its 28 ignored bits. -/
theorem of_cmd {opc : BitVec 4} {ign : BitVec 28} {i : Instr} (e : bitsOf i = cmdBits opc ign)
    (d : decodeCmd (cmdWord opc ign) = i) : Statement i :=
  of_bits (by rw [e]; exact congrArg _ d)

/-- A frame word. -/
theorem of_frame {p : BitVec 1} {type : BitVec 3} {spare : BitVec 4} {id : BitVec 8} {payload : BitVec 16} {i : Instr}
    (e : bitsOf i = frameBits p type spare id payload)
    (d : decodeFrame (frameWord p type spare id payload) = i) : Statement i :=
  of_bits (by rw [e]; exact congrArg _ d)

/-- A register access. -/
theorem of_reg {index : BitVec 4} {a : Access} {i : Instr} (e : bitsOf i = regBits index a)
    (d : regInstr index a = i) : Statement i :=
  of_bits (by rw [e, decodeBits_reg, d])

theorem nop (ign : BitVec 28) : Statement (.nop ign) :=
  of_cmd rfl (by simp [decodeCmd, cmdWord_opc, cmdWord_rest])

theorem beginLink (ign : BitVec 28) : Statement (.beginLink ign) :=
  of_cmd rfl (by simp [decodeCmd, cmdWord_opc, cmdWord_rest])

theorem poll (ign : BitVec 28) : Statement (.poll ign) :=
  of_cmd rfl (by simp [decodeCmd, cmdWord_opc, cmdWord_rest])

theorem sendRequest (ign : BitVec 28) : Statement (.sendRequest ign) :=
  of_cmd rfl (by simp [decodeCmd, cmdWord_opc, cmdWord_rest])

theorem sendResponse (ign : BitVec 28) : Statement (.sendResponse ign) :=
  of_cmd rfl (by simp [decodeCmd, cmdWord_opc, cmdWord_rest])

theorem cmdReserved7 (ign : BitVec 28) : Statement (.cmdReserved7 ign) :=
  of_cmd rfl (by simp [decodeCmd, cmdWord_opc, cmdWord_rest])

theorem cmdReserved8 (ign : BitVec 28) : Statement (.cmdReserved8 ign) :=
  of_cmd rfl (by simp [decodeCmd, cmdWord_opc, cmdWord_rest])

theorem cmdReserved9 (ign : BitVec 28) : Statement (.cmdReserved9 ign) :=
  of_cmd rfl (by simp [decodeCmd, cmdWord_opc, cmdWord_rest])

theorem cmdReservedA (ign : BitVec 28) : Statement (.cmdReservedA ign) :=
  of_cmd rfl (by simp [decodeCmd, cmdWord_opc, cmdWord_rest])

theorem cmdReservedB (ign : BitVec 28) : Statement (.cmdReservedB ign) :=
  of_cmd rfl (by simp [decodeCmd, cmdWord_opc, cmdWord_rest])

theorem cmdReservedC (ign : BitVec 28) : Statement (.cmdReservedC ign) :=
  of_cmd rfl (by simp [decodeCmd, cmdWord_opc, cmdWord_rest])

theorem cmdReservedD (ign : BitVec 28) : Statement (.cmdReservedD ign) :=
  of_cmd rfl (by simp [decodeCmd, cmdWord_opc, cmdWord_rest])

theorem cmdReservedE (ign : BitVec 28) : Statement (.cmdReservedE ign) :=
  of_cmd rfl (by simp [decodeCmd, cmdWord_opc, cmdWord_rest])

theorem cmdReservedF (ign : BitVec 28) : Statement (.cmdReservedF ign) :=
  of_cmd rfl (by simp [decodeCmd, cmdWord_opc, cmdWord_rest])

theorem buildRequest (rsv : BitVec 1) (type : BitVec 3) (id : BitVec 8) (data : BitVec 16) :
    Statement (.buildRequest rsv type id data) :=
  of_cmd rfl (by simp [decodeCmd, cmdWord_opc, cmdWord_low, buildRest_fields])

theorem buildResponse (rsv : BitVec 1) (type : BitVec 3) (id : BitVec 8) (data : BitVec 16) :
    Statement (.buildResponse rsv type id data) :=
  of_cmd rfl (by simp [decodeCmd, cmdWord_opc, cmdWord_low, buildRest_fields])

theorem frameReadData (p : BitVec 1) (spare : BitVec 4) (id : BitVec 8) (payload : BitVec 16) :
    Statement (.frameReadData p spare id payload) :=
  of_frame rfl (by simp [decodeFrame, frameWord_fields])

theorem frameWriteData (p : BitVec 1) (spare : BitVec 4) (id : BitVec 8) (payload : BitVec 16) :
    Statement (.frameWriteData p spare id payload) :=
  of_frame rfl (by simp [decodeFrame, frameWord_fields])

theorem frameInvalidData (p : BitVec 1) (spare : BitVec 4) (id : BitVec 8) (payload : BitVec 16) :
    Statement (.frameInvalidData p spare id payload) :=
  of_frame rfl (by simp [decodeFrame, frameWord_fields])

theorem frameMsgtypeReserved3 (p : BitVec 1) (spare : BitVec 4) (id : BitVec 8) (payload : BitVec 16) :
    Statement (.frameMsgtypeReserved3 p spare id payload) :=
  of_frame rfl (by simp [decodeFrame, frameWord_fields])

theorem frameReadAck (p : BitVec 1) (spare : BitVec 4) (id : BitVec 8) (payload : BitVec 16) :
    Statement (.frameReadAck p spare id payload) :=
  of_frame rfl (by simp [decodeFrame, frameWord_fields])

theorem frameWriteAck (p : BitVec 1) (spare : BitVec 4) (id : BitVec 8) (payload : BitVec 16) :
    Statement (.frameWriteAck p spare id payload) :=
  of_frame rfl (by simp [decodeFrame, frameWord_fields])

theorem frameDataInvalid (p : BitVec 1) (spare : BitVec 4) (id : BitVec 8) (payload : BitVec 16) :
    Statement (.frameDataInvalid p spare id payload) :=
  of_frame rfl (by simp [decodeFrame, frameWord_fields])

theorem frameUnknownDataId (p : BitVec 1) (spare : BitVec 4) (id : BitVec 8) (payload : BitVec 16) :
    Statement (.frameUnknownDataId p spare id payload) :=
  of_frame rfl (by simp [decodeFrame, frameWord_fields])

theorem wireFrame (start : Bool) (f : Word) (stop : Bool) : Statement (.wireFrame start f stop) := by
  intro h
  obtain ⟨rfl, rfl⟩ : start = true ∧ stop = true := by simpa [Instr.wf] using h
  exact decode_bytesOf (by simp only [bitsOf, decodeBits, decodeWire, wireWord_slots, if_true])

theorem bit1 : Statement .bit1 := fun _ => rfl

theorem bit0 : Statement .bit0 := fun _ => rfl

theorem edgeActive : Statement .edgeActive := fun _ => rfl

theorem edgeIdle : Statement .edgeIdle := fun _ => rfl

theorem regCmd (a : Access) : Statement (.regCmd a) := of_reg rfl rfl

theorem regStatus (a : Access) : Statement (.regStatus a) := of_reg rfl rfl

theorem regTxdata (a : Access) : Statement (.regTxdata a) := of_reg rfl rfl

theorem regResponse (a : Access) : Statement (.regResponse a) := of_reg rfl rfl

theorem regRespTs (a : Access) : Statement (.regRespTs a) := of_reg rfl rfl

theorem regNow (a : Access) : Statement (.regNow a) := of_reg rfl rfl

theorem regDoneFrame (a : Access) : Statement (.regDoneFrame a) := of_reg rfl rfl

theorem regIrqStatus (a : Access) : Statement (.regIrqStatus a) := of_reg rfl rfl

theorem regIrqEnable (a : Access) : Statement (.regIrqEnable a) := of_reg rfl rfl

theorem regCodecFrame (a : Access) : Statement (.regCodecFrame a) := of_reg rfl rfl

theorem regCodecInfo (a : Access) : Statement (.regCodecInfo a) := of_reg rfl rfl

theorem regReserved2C (a : Access) : Statement (.regReserved2C a) := of_reg rfl rfl

theorem regReserved30 (a : Access) : Statement (.regReserved30 a) := of_reg rfl rfl

theorem regReserved34 (a : Access) : Statement (.regReserved34 a) := of_reg rfl rfl

theorem regReserved38 (a : Access) : Statement (.regReserved38 a) := of_reg rfl rfl

theorem regReserved3C (a : Access) : Statement (.regReserved3C a) := of_reg rfl rfl

end Sys2Proof.Laws.EncodingRoundTrip
end

