-- ==== Sys2Proof/Laws/State.lean ====
section
/-! SUPPORT. What each named update leaves in each field of State: one lemma per field, true by unfolding. -/

namespace Sys2Proof.Machine

/-! ### A command executed -/

@[simp] theorem accept_status (s : State) : (accept s).status = s.status := rfl
@[simp] theorem accept_response (s : State) : (accept s).response = s.response := rfl
@[simp] theorem accept_responseTimestamp (s : State) : (accept s).responseTimestamp = s.responseTimestamp := rfl
@[simp] theorem accept_responseBitIndex (s : State) : (accept s).responseBitIndex = s.responseBitIndex := rfl
@[simp] theorem accept_isSlave (s : State) : (accept s).isSlave = s.isSlave := rfl
@[simp] theorem accept_responseStatus (s : State) : (accept s).responseStatus = s.responseStatus := rfl
@[simp] theorem accept_now (s : State) : (accept s).now = s.now := rfl
@[simp] theorem accept_txdata (s : State) : (accept s).txdata = s.txdata := rfl
@[simp] theorem accept_txBusy (s : State) : (accept s).txBusy = s.txBusy := rfl
@[simp] theorem accept_txKind (s : State) : (accept s).txKind = s.txKind := rfl
@[simp] theorem accept_txFrame (s : State) : (accept s).txFrame = s.txFrame := rfl
@[simp] theorem accept_txHp (s : State) : (accept s).txHp = s.txHp := rfl
@[simp] theorem accept_txCnt (s : State) : (accept s).txCnt = s.txCnt := rfl
@[simp] theorem accept_lineOut (s : State) : (accept s).lineOut = s.lineOut := rfl
@[simp] theorem accept_lineOe (s : State) : (accept s).lineOe = s.lineOe := rfl
@[simp] theorem accept_rxPrev (s : State) : (accept s).rxPrev = s.rxPrev := rfl
@[simp] theorem accept_cmdOk (s : State) : (accept s).cmdOk = true := rfl
@[simp] theorem accept_done (s : State) : (accept s).done = s.done := rfl
@[simp] theorem accept_doneFrame (s : State) : (accept s).doneFrame = s.doneFrame := rfl
@[simp] theorem accept_irqEn (s : State) : (accept s).irqEn = s.irqEn := rfl
@[simp] theorem accept_codecFrame (s : State) : (accept s).codecFrame = s.codecFrame := rfl
@[simp] theorem accept_doneValid (s : State) : (accept s).doneValid = s.doneValid := rfl
@[simp] theorem accept_rdata (s : State) : (accept s).rdata = s.rdata := rfl
@[simp] theorem accept_params (s : State) : (accept s).params = s.params := rfl
@[simp] theorem accept_inputs (s : State) : (accept s).inputs = s.inputs := rfl

/-! ### A command refused -/

@[simp] theorem refuse_status (s : State) : (refuse s).status = s.status := rfl
@[simp] theorem refuse_response (s : State) : (refuse s).response = s.response := rfl
@[simp] theorem refuse_responseTimestamp (s : State) : (refuse s).responseTimestamp = s.responseTimestamp := rfl
@[simp] theorem refuse_responseBitIndex (s : State) : (refuse s).responseBitIndex = s.responseBitIndex := rfl
@[simp] theorem refuse_isSlave (s : State) : (refuse s).isSlave = s.isSlave := rfl
@[simp] theorem refuse_responseStatus (s : State) : (refuse s).responseStatus = s.responseStatus := rfl
@[simp] theorem refuse_now (s : State) : (refuse s).now = s.now := rfl
@[simp] theorem refuse_txdata (s : State) : (refuse s).txdata = s.txdata := rfl
@[simp] theorem refuse_txBusy (s : State) : (refuse s).txBusy = s.txBusy := rfl
@[simp] theorem refuse_txKind (s : State) : (refuse s).txKind = s.txKind := rfl
@[simp] theorem refuse_txFrame (s : State) : (refuse s).txFrame = s.txFrame := rfl
@[simp] theorem refuse_txHp (s : State) : (refuse s).txHp = s.txHp := rfl
@[simp] theorem refuse_txCnt (s : State) : (refuse s).txCnt = s.txCnt := rfl
@[simp] theorem refuse_lineOut (s : State) : (refuse s).lineOut = s.lineOut := rfl
@[simp] theorem refuse_lineOe (s : State) : (refuse s).lineOe = s.lineOe := rfl
@[simp] theorem refuse_rxPrev (s : State) : (refuse s).rxPrev = s.rxPrev := rfl
@[simp] theorem refuse_cmdOk (s : State) : (refuse s).cmdOk = false := rfl
@[simp] theorem refuse_done (s : State) : (refuse s).done = s.done := rfl
@[simp] theorem refuse_doneFrame (s : State) : (refuse s).doneFrame = s.doneFrame := rfl
@[simp] theorem refuse_irqEn (s : State) : (refuse s).irqEn = s.irqEn := rfl
@[simp] theorem refuse_codecFrame (s : State) : (refuse s).codecFrame = s.codecFrame := rfl
@[simp] theorem refuse_doneValid (s : State) : (refuse s).doneValid = s.doneValid := rfl
@[simp] theorem refuse_rdata (s : State) : (refuse s).rdata = s.rdata := rfl
@[simp] theorem refuse_params (s : State) : (refuse s).params = s.params := rfl
@[simp] theorem refuse_inputs (s : State) : (refuse s).inputs = s.inputs := rfl

/-! ### The acknowledgement of a completion -/

@[simp] theorem acknowledge_status (s : State) : (acknowledge s).status = s.status := rfl
@[simp] theorem acknowledge_response (s : State) : (acknowledge s).response = s.response := rfl
@[simp] theorem acknowledge_responseTimestamp (s : State) : (acknowledge s).responseTimestamp = s.responseTimestamp := rfl
@[simp] theorem acknowledge_responseBitIndex (s : State) : (acknowledge s).responseBitIndex = s.responseBitIndex := rfl
@[simp] theorem acknowledge_isSlave (s : State) : (acknowledge s).isSlave = s.isSlave := rfl
@[simp] theorem acknowledge_responseStatus (s : State) : (acknowledge s).responseStatus = s.responseStatus := rfl
@[simp] theorem acknowledge_now (s : State) : (acknowledge s).now = s.now := rfl
@[simp] theorem acknowledge_txdata (s : State) : (acknowledge s).txdata = s.txdata := rfl
@[simp] theorem acknowledge_txBusy (s : State) : (acknowledge s).txBusy = s.txBusy := rfl
@[simp] theorem acknowledge_txKind (s : State) : (acknowledge s).txKind = s.txKind := rfl
@[simp] theorem acknowledge_txFrame (s : State) : (acknowledge s).txFrame = s.txFrame := rfl
@[simp] theorem acknowledge_txHp (s : State) : (acknowledge s).txHp = s.txHp := rfl
@[simp] theorem acknowledge_txCnt (s : State) : (acknowledge s).txCnt = s.txCnt := rfl
@[simp] theorem acknowledge_lineOut (s : State) : (acknowledge s).lineOut = s.lineOut := rfl
@[simp] theorem acknowledge_lineOe (s : State) : (acknowledge s).lineOe = s.lineOe := rfl
@[simp] theorem acknowledge_rxPrev (s : State) : (acknowledge s).rxPrev = s.rxPrev := rfl
@[simp] theorem acknowledge_cmdOk (s : State) : (acknowledge s).cmdOk = s.cmdOk := rfl
@[simp] theorem acknowledge_done (s : State) : (acknowledge s).done = false := rfl
@[simp] theorem acknowledge_doneFrame (s : State) : (acknowledge s).doneFrame = s.doneFrame := rfl
@[simp] theorem acknowledge_irqEn (s : State) : (acknowledge s).irqEn = s.irqEn := rfl
@[simp] theorem acknowledge_codecFrame (s : State) : (acknowledge s).codecFrame = s.codecFrame := rfl
@[simp] theorem acknowledge_doneValid (s : State) : (acknowledge s).doneValid = s.doneValid := rfl
@[simp] theorem acknowledge_rdata (s : State) : (acknowledge s).rdata = s.rdata := rfl
@[simp] theorem acknowledge_params (s : State) : (acknowledge s).params = s.params := rfl
@[simp] theorem acknowledge_inputs (s : State) : (acknowledge s).inputs = s.inputs := rfl

/-! ### The end of the completion pulse -/

@[simp] theorem endPulse_status (s : State) : (endPulse s).status = s.status := rfl
@[simp] theorem endPulse_response (s : State) : (endPulse s).response = s.response := rfl
@[simp] theorem endPulse_responseTimestamp (s : State) : (endPulse s).responseTimestamp = s.responseTimestamp := rfl
@[simp] theorem endPulse_responseBitIndex (s : State) : (endPulse s).responseBitIndex = s.responseBitIndex := rfl
@[simp] theorem endPulse_isSlave (s : State) : (endPulse s).isSlave = s.isSlave := rfl
@[simp] theorem endPulse_responseStatus (s : State) : (endPulse s).responseStatus = s.responseStatus := rfl
@[simp] theorem endPulse_now (s : State) : (endPulse s).now = s.now := rfl
@[simp] theorem endPulse_txdata (s : State) : (endPulse s).txdata = s.txdata := rfl
@[simp] theorem endPulse_txBusy (s : State) : (endPulse s).txBusy = s.txBusy := rfl
@[simp] theorem endPulse_txKind (s : State) : (endPulse s).txKind = s.txKind := rfl
@[simp] theorem endPulse_txFrame (s : State) : (endPulse s).txFrame = s.txFrame := rfl
@[simp] theorem endPulse_txHp (s : State) : (endPulse s).txHp = s.txHp := rfl
@[simp] theorem endPulse_txCnt (s : State) : (endPulse s).txCnt = s.txCnt := rfl
@[simp] theorem endPulse_lineOut (s : State) : (endPulse s).lineOut = s.lineOut := rfl
@[simp] theorem endPulse_lineOe (s : State) : (endPulse s).lineOe = s.lineOe := rfl
@[simp] theorem endPulse_rxPrev (s : State) : (endPulse s).rxPrev = s.rxPrev := rfl
@[simp] theorem endPulse_cmdOk (s : State) : (endPulse s).cmdOk = s.cmdOk := rfl
@[simp] theorem endPulse_done (s : State) : (endPulse s).done = s.done := rfl
@[simp] theorem endPulse_doneFrame (s : State) : (endPulse s).doneFrame = s.doneFrame := rfl
@[simp] theorem endPulse_irqEn (s : State) : (endPulse s).irqEn = s.irqEn := rfl
@[simp] theorem endPulse_codecFrame (s : State) : (endPulse s).codecFrame = s.codecFrame := rfl
@[simp] theorem endPulse_doneValid (s : State) : (endPulse s).doneValid = false := rfl
@[simp] theorem endPulse_rdata (s : State) : (endPulse s).rdata = s.rdata := rfl
@[simp] theorem endPulse_params (s : State) : (endPulse s).params = s.params := rfl
@[simp] theorem endPulse_inputs (s : State) : (endPulse s).inputs = s.inputs := rfl

/-! ### The tick -/

@[simp] theorem tick_status (s : State) : (tick s).status = s.status := rfl
@[simp] theorem tick_response (s : State) : (tick s).response = s.response := rfl
@[simp] theorem tick_responseTimestamp (s : State) : (tick s).responseTimestamp = s.responseTimestamp := rfl
@[simp] theorem tick_responseBitIndex (s : State) : (tick s).responseBitIndex = s.responseBitIndex := rfl
@[simp] theorem tick_isSlave (s : State) : (tick s).isSlave = s.isSlave := rfl
@[simp] theorem tick_responseStatus (s : State) : (tick s).responseStatus = s.responseStatus := rfl
@[simp] theorem tick_now (s : State) : (tick s).now = s.now + 1 := rfl
@[simp] theorem tick_txdata (s : State) : (tick s).txdata = s.txdata := rfl
@[simp] theorem tick_txBusy (s : State) : (tick s).txBusy = s.txBusy := rfl
@[simp] theorem tick_txKind (s : State) : (tick s).txKind = s.txKind := rfl
@[simp] theorem tick_txFrame (s : State) : (tick s).txFrame = s.txFrame := rfl
@[simp] theorem tick_txHp (s : State) : (tick s).txHp = s.txHp := rfl
@[simp] theorem tick_txCnt (s : State) : (tick s).txCnt = s.txCnt := rfl
@[simp] theorem tick_lineOut (s : State) : (tick s).lineOut = s.lineOut := rfl
@[simp] theorem tick_lineOe (s : State) : (tick s).lineOe = s.lineOe := rfl
@[simp] theorem tick_rxPrev (s : State) : (tick s).rxPrev = s.rxPrev := rfl
@[simp] theorem tick_cmdOk (s : State) : (tick s).cmdOk = s.cmdOk := rfl
@[simp] theorem tick_done (s : State) : (tick s).done = s.done := rfl
@[simp] theorem tick_doneFrame (s : State) : (tick s).doneFrame = s.doneFrame := rfl
@[simp] theorem tick_irqEn (s : State) : (tick s).irqEn = s.irqEn := rfl
@[simp] theorem tick_codecFrame (s : State) : (tick s).codecFrame = s.codecFrame := rfl
@[simp] theorem tick_doneValid (s : State) : (tick s).doneValid = s.doneValid := rfl
@[simp] theorem tick_rdata (s : State) : (tick s).rdata = s.rdata := rfl
@[simp] theorem tick_params (s : State) : (tick s).params = s.params := rfl
@[simp] theorem tick_inputs (s : State) : (tick s).inputs = s.inputs := rfl

/-! ### The completion event -/

@[simp] theorem emitCompletion_status (f : Word) (rs : ResponseStatus) (s : State) : (emitCompletion f rs s).status = s.status := rfl
@[simp] theorem emitCompletion_response (f : Word) (rs : ResponseStatus) (s : State) : (emitCompletion f rs s).response = s.response := rfl
@[simp] theorem emitCompletion_responseTimestamp (f : Word) (rs : ResponseStatus) (s : State) : (emitCompletion f rs s).responseTimestamp = s.responseTimestamp := rfl
@[simp] theorem emitCompletion_responseBitIndex (f : Word) (rs : ResponseStatus) (s : State) : (emitCompletion f rs s).responseBitIndex = s.responseBitIndex := rfl
@[simp] theorem emitCompletion_isSlave (f : Word) (rs : ResponseStatus) (s : State) : (emitCompletion f rs s).isSlave = s.isSlave := rfl
@[simp] theorem emitCompletion_responseStatus (f : Word) (rs : ResponseStatus) (s : State) : (emitCompletion f rs s).responseStatus = rs := rfl
@[simp] theorem emitCompletion_now (f : Word) (rs : ResponseStatus) (s : State) : (emitCompletion f rs s).now = s.now := rfl
@[simp] theorem emitCompletion_txdata (f : Word) (rs : ResponseStatus) (s : State) : (emitCompletion f rs s).txdata = s.txdata := rfl
@[simp] theorem emitCompletion_txBusy (f : Word) (rs : ResponseStatus) (s : State) : (emitCompletion f rs s).txBusy = s.txBusy := rfl
@[simp] theorem emitCompletion_txKind (f : Word) (rs : ResponseStatus) (s : State) : (emitCompletion f rs s).txKind = s.txKind := rfl
@[simp] theorem emitCompletion_txFrame (f : Word) (rs : ResponseStatus) (s : State) : (emitCompletion f rs s).txFrame = s.txFrame := rfl
@[simp] theorem emitCompletion_txHp (f : Word) (rs : ResponseStatus) (s : State) : (emitCompletion f rs s).txHp = s.txHp := rfl
@[simp] theorem emitCompletion_txCnt (f : Word) (rs : ResponseStatus) (s : State) : (emitCompletion f rs s).txCnt = s.txCnt := rfl
@[simp] theorem emitCompletion_lineOut (f : Word) (rs : ResponseStatus) (s : State) : (emitCompletion f rs s).lineOut = s.lineOut := rfl
@[simp] theorem emitCompletion_lineOe (f : Word) (rs : ResponseStatus) (s : State) : (emitCompletion f rs s).lineOe = s.lineOe := rfl
@[simp] theorem emitCompletion_rxPrev (f : Word) (rs : ResponseStatus) (s : State) : (emitCompletion f rs s).rxPrev = s.rxPrev := rfl
@[simp] theorem emitCompletion_cmdOk (f : Word) (rs : ResponseStatus) (s : State) : (emitCompletion f rs s).cmdOk = s.cmdOk := rfl
@[simp] theorem emitCompletion_done (f : Word) (rs : ResponseStatus) (s : State) : (emitCompletion f rs s).done = true := rfl
@[simp] theorem emitCompletion_doneFrame (f : Word) (rs : ResponseStatus) (s : State) : (emitCompletion f rs s).doneFrame = f := rfl
@[simp] theorem emitCompletion_irqEn (f : Word) (rs : ResponseStatus) (s : State) : (emitCompletion f rs s).irqEn = s.irqEn := rfl
@[simp] theorem emitCompletion_codecFrame (f : Word) (rs : ResponseStatus) (s : State) : (emitCompletion f rs s).codecFrame = s.codecFrame := rfl
@[simp] theorem emitCompletion_doneValid (f : Word) (rs : ResponseStatus) (s : State) : (emitCompletion f rs s).doneValid = true := rfl
@[simp] theorem emitCompletion_rdata (f : Word) (rs : ResponseStatus) (s : State) : (emitCompletion f rs s).rdata = s.rdata := rfl
@[simp] theorem emitCompletion_params (f : Word) (rs : ResponseStatus) (s : State) : (emitCompletion f rs s).params = s.params := rfl
@[simp] theorem emitCompletion_inputs (f : Word) (rs : ResponseStatus) (s : State) : (emitCompletion f rs s).inputs = s.inputs := rfl

/-! ### The start of a transmission -/

@[simp] theorem startTransmission_status (k : TxKind) (s : State) : (startTransmission k s).status = s.status := rfl
@[simp] theorem startTransmission_response (k : TxKind) (s : State) : (startTransmission k s).response = s.response := rfl
@[simp] theorem startTransmission_responseTimestamp (k : TxKind) (s : State) : (startTransmission k s).responseTimestamp = s.responseTimestamp := rfl
@[simp] theorem startTransmission_responseBitIndex (k : TxKind) (s : State) : (startTransmission k s).responseBitIndex = s.responseBitIndex := rfl
@[simp] theorem startTransmission_isSlave (k : TxKind) (s : State) : (startTransmission k s).isSlave = s.isSlave := rfl
@[simp] theorem startTransmission_responseStatus (k : TxKind) (s : State) : (startTransmission k s).responseStatus = s.responseStatus := rfl
@[simp] theorem startTransmission_now (k : TxKind) (s : State) : (startTransmission k s).now = s.now := rfl
@[simp] theorem startTransmission_txdata (k : TxKind) (s : State) : (startTransmission k s).txdata = s.txdata := rfl
@[simp] theorem startTransmission_txBusy (k : TxKind) (s : State) : (startTransmission k s).txBusy = true := rfl
@[simp] theorem startTransmission_txKind (k : TxKind) (s : State) : (startTransmission k s).txKind = k := rfl
@[simp] theorem startTransmission_txFrame (k : TxKind) (s : State) : (startTransmission k s).txFrame = s.txdata := rfl
@[simp] theorem startTransmission_txHp (k : TxKind) (s : State) : (startTransmission k s).txHp = 0 := rfl
@[simp] theorem startTransmission_txCnt (k : TxKind) (s : State) : (startTransmission k s).txCnt = 0 := rfl
@[simp] theorem startTransmission_lineOut (k : TxKind) (s : State) : (startTransmission k s).lineOut = hpLevel s.txdata 0 := rfl
@[simp] theorem startTransmission_lineOe (k : TxKind) (s : State) : (startTransmission k s).lineOe = s.lineOe := rfl
@[simp] theorem startTransmission_rxPrev (k : TxKind) (s : State) : (startTransmission k s).rxPrev = s.rxPrev := rfl
@[simp] theorem startTransmission_cmdOk (k : TxKind) (s : State) : (startTransmission k s).cmdOk = s.cmdOk := rfl
@[simp] theorem startTransmission_done (k : TxKind) (s : State) : (startTransmission k s).done = s.done := rfl
@[simp] theorem startTransmission_doneFrame (k : TxKind) (s : State) : (startTransmission k s).doneFrame = s.doneFrame := rfl
@[simp] theorem startTransmission_irqEn (k : TxKind) (s : State) : (startTransmission k s).irqEn = s.irqEn := rfl
@[simp] theorem startTransmission_codecFrame (k : TxKind) (s : State) : (startTransmission k s).codecFrame = s.codecFrame := rfl
@[simp] theorem startTransmission_doneValid (k : TxKind) (s : State) : (startTransmission k s).doneValid = s.doneValid := rfl
@[simp] theorem startTransmission_rdata (k : TxKind) (s : State) : (startTransmission k s).rdata = s.rdata := rfl
@[simp] theorem startTransmission_params (k : TxKind) (s : State) : (startTransmission k s).params = s.params := rfl
@[simp] theorem startTransmission_inputs (k : TxKind) (s : State) : (startTransmission k s).inputs = s.inputs := rfl

/-! ### The transmit agent at rest again -/

@[simp] theorem endTransmission_status (s : State) : (endTransmission s).status = s.status := rfl
@[simp] theorem endTransmission_response (s : State) : (endTransmission s).response = s.response := rfl
@[simp] theorem endTransmission_responseTimestamp (s : State) : (endTransmission s).responseTimestamp = s.responseTimestamp := rfl
@[simp] theorem endTransmission_responseBitIndex (s : State) : (endTransmission s).responseBitIndex = s.responseBitIndex := rfl
@[simp] theorem endTransmission_isSlave (s : State) : (endTransmission s).isSlave = s.isSlave := rfl
@[simp] theorem endTransmission_responseStatus (s : State) : (endTransmission s).responseStatus = s.responseStatus := rfl
@[simp] theorem endTransmission_now (s : State) : (endTransmission s).now = s.now := rfl
@[simp] theorem endTransmission_txdata (s : State) : (endTransmission s).txdata = s.txdata := rfl
@[simp] theorem endTransmission_txBusy (s : State) : (endTransmission s).txBusy = false := rfl
@[simp] theorem endTransmission_txKind (s : State) : (endTransmission s).txKind = s.txKind := rfl
@[simp] theorem endTransmission_txFrame (s : State) : (endTransmission s).txFrame = s.txFrame := rfl
@[simp] theorem endTransmission_txHp (s : State) : (endTransmission s).txHp = 0 := rfl
@[simp] theorem endTransmission_txCnt (s : State) : (endTransmission s).txCnt = 0 := rfl
@[simp] theorem endTransmission_lineOut (s : State) : (endTransmission s).lineOut = .idle := rfl
@[simp] theorem endTransmission_lineOe (s : State) : (endTransmission s).lineOe = s.lineOe := rfl
@[simp] theorem endTransmission_rxPrev (s : State) : (endTransmission s).rxPrev = s.rxPrev := rfl
@[simp] theorem endTransmission_cmdOk (s : State) : (endTransmission s).cmdOk = true := rfl
@[simp] theorem endTransmission_done (s : State) : (endTransmission s).done = s.done := rfl
@[simp] theorem endTransmission_doneFrame (s : State) : (endTransmission s).doneFrame = s.doneFrame := rfl
@[simp] theorem endTransmission_irqEn (s : State) : (endTransmission s).irqEn = s.irqEn := rfl
@[simp] theorem endTransmission_codecFrame (s : State) : (endTransmission s).codecFrame = s.codecFrame := rfl
@[simp] theorem endTransmission_doneValid (s : State) : (endTransmission s).doneValid = s.doneValid := rfl
@[simp] theorem endTransmission_rdata (s : State) : (endTransmission s).rdata = s.rdata := rfl
@[simp] theorem endTransmission_params (s : State) : (endTransmission s).params = s.params := rfl
@[simp] theorem endTransmission_inputs (s : State) : (endTransmission s).inputs = s.inputs := rfl

/-! ### A register read -/

@[simp] theorem readReg_status (i : BitVec 4) (s : State) : (readReg i s).status = s.status := rfl
@[simp] theorem readReg_response (i : BitVec 4) (s : State) : (readReg i s).response = s.response := rfl
@[simp] theorem readReg_responseTimestamp (i : BitVec 4) (s : State) : (readReg i s).responseTimestamp = s.responseTimestamp := rfl
@[simp] theorem readReg_responseBitIndex (i : BitVec 4) (s : State) : (readReg i s).responseBitIndex = s.responseBitIndex := rfl
@[simp] theorem readReg_isSlave (i : BitVec 4) (s : State) : (readReg i s).isSlave = s.isSlave := rfl
@[simp] theorem readReg_responseStatus (i : BitVec 4) (s : State) : (readReg i s).responseStatus = s.responseStatus := rfl
@[simp] theorem readReg_now (i : BitVec 4) (s : State) : (readReg i s).now = s.now := rfl
@[simp] theorem readReg_txdata (i : BitVec 4) (s : State) : (readReg i s).txdata = s.txdata := rfl
@[simp] theorem readReg_txBusy (i : BitVec 4) (s : State) : (readReg i s).txBusy = s.txBusy := rfl
@[simp] theorem readReg_txKind (i : BitVec 4) (s : State) : (readReg i s).txKind = s.txKind := rfl
@[simp] theorem readReg_txFrame (i : BitVec 4) (s : State) : (readReg i s).txFrame = s.txFrame := rfl
@[simp] theorem readReg_txHp (i : BitVec 4) (s : State) : (readReg i s).txHp = s.txHp := rfl
@[simp] theorem readReg_txCnt (i : BitVec 4) (s : State) : (readReg i s).txCnt = s.txCnt := rfl
@[simp] theorem readReg_lineOut (i : BitVec 4) (s : State) : (readReg i s).lineOut = s.lineOut := rfl
@[simp] theorem readReg_lineOe (i : BitVec 4) (s : State) : (readReg i s).lineOe = s.lineOe := rfl
@[simp] theorem readReg_rxPrev (i : BitVec 4) (s : State) : (readReg i s).rxPrev = s.rxPrev := rfl
@[simp] theorem readReg_cmdOk (i : BitVec 4) (s : State) : (readReg i s).cmdOk = s.cmdOk := rfl
@[simp] theorem readReg_done (i : BitVec 4) (s : State) : (readReg i s).done = s.done := rfl
@[simp] theorem readReg_doneFrame (i : BitVec 4) (s : State) : (readReg i s).doneFrame = s.doneFrame := rfl
@[simp] theorem readReg_irqEn (i : BitVec 4) (s : State) : (readReg i s).irqEn = s.irqEn := rfl
@[simp] theorem readReg_codecFrame (i : BitVec 4) (s : State) : (readReg i s).codecFrame = s.codecFrame := rfl
@[simp] theorem readReg_doneValid (i : BitVec 4) (s : State) : (readReg i s).doneValid = s.doneValid := rfl
@[simp] theorem readReg_rdata (i : BitVec 4) (s : State) : (readReg i s).rdata = regValue i s := rfl
@[simp] theorem readReg_params (i : BitVec 4) (s : State) : (readReg i s).params = s.params := rfl
@[simp] theorem readReg_inputs (i : BitVec 4) (s : State) : (readReg i s).inputs = s.inputs := rfl

/-! ### A frame word given to the codec -/

@[simp] theorem inspectFrame_status (f : Word) (s : State) : (inspectFrame f s).status = s.status := rfl
@[simp] theorem inspectFrame_response (f : Word) (s : State) : (inspectFrame f s).response = s.response := rfl
@[simp] theorem inspectFrame_responseTimestamp (f : Word) (s : State) : (inspectFrame f s).responseTimestamp = s.responseTimestamp := rfl
@[simp] theorem inspectFrame_responseBitIndex (f : Word) (s : State) : (inspectFrame f s).responseBitIndex = s.responseBitIndex := rfl
@[simp] theorem inspectFrame_isSlave (f : Word) (s : State) : (inspectFrame f s).isSlave = s.isSlave := rfl
@[simp] theorem inspectFrame_responseStatus (f : Word) (s : State) : (inspectFrame f s).responseStatus = s.responseStatus := rfl
@[simp] theorem inspectFrame_now (f : Word) (s : State) : (inspectFrame f s).now = s.now := rfl
@[simp] theorem inspectFrame_txdata (f : Word) (s : State) : (inspectFrame f s).txdata = s.txdata := rfl
@[simp] theorem inspectFrame_txBusy (f : Word) (s : State) : (inspectFrame f s).txBusy = s.txBusy := rfl
@[simp] theorem inspectFrame_txKind (f : Word) (s : State) : (inspectFrame f s).txKind = s.txKind := rfl
@[simp] theorem inspectFrame_txFrame (f : Word) (s : State) : (inspectFrame f s).txFrame = s.txFrame := rfl
@[simp] theorem inspectFrame_txHp (f : Word) (s : State) : (inspectFrame f s).txHp = s.txHp := rfl
@[simp] theorem inspectFrame_txCnt (f : Word) (s : State) : (inspectFrame f s).txCnt = s.txCnt := rfl
@[simp] theorem inspectFrame_lineOut (f : Word) (s : State) : (inspectFrame f s).lineOut = s.lineOut := rfl
@[simp] theorem inspectFrame_lineOe (f : Word) (s : State) : (inspectFrame f s).lineOe = s.lineOe := rfl
@[simp] theorem inspectFrame_rxPrev (f : Word) (s : State) : (inspectFrame f s).rxPrev = s.rxPrev := rfl
@[simp] theorem inspectFrame_cmdOk (f : Word) (s : State) : (inspectFrame f s).cmdOk = s.cmdOk := rfl
@[simp] theorem inspectFrame_done (f : Word) (s : State) : (inspectFrame f s).done = s.done := rfl
@[simp] theorem inspectFrame_doneFrame (f : Word) (s : State) : (inspectFrame f s).doneFrame = s.doneFrame := rfl
@[simp] theorem inspectFrame_irqEn (f : Word) (s : State) : (inspectFrame f s).irqEn = s.irqEn := rfl
@[simp] theorem inspectFrame_codecFrame (f : Word) (s : State) : (inspectFrame f s).codecFrame = f := rfl
@[simp] theorem inspectFrame_doneValid (f : Word) (s : State) : (inspectFrame f s).doneValid = s.doneValid := rfl
@[simp] theorem inspectFrame_rdata (f : Word) (s : State) : (inspectFrame f s).rdata = codecInfo f := rfl
@[simp] theorem inspectFrame_params (f : Word) (s : State) : (inspectFrame f s).params = s.params := rfl
@[simp] theorem inspectFrame_inputs (f : Word) (s : State) : (inspectFrame f s).inputs = s.inputs := rfl

/-! ### An edge in RESPONSE_WAITING -/

@[simp] theorem edgeWaiting_status (lvl : Level) (s : State) : (edgeWaiting lvl s).status = if lvl = .active then .responseStartBit else .responseInvalid := rfl
@[simp] theorem edgeWaiting_response (lvl : Level) (s : State) : (edgeWaiting lvl s).response = s.response := rfl
@[simp] theorem edgeWaiting_responseTimestamp (lvl : Level) (s : State) : (edgeWaiting lvl s).responseTimestamp = s.now := rfl
@[simp] theorem edgeWaiting_responseBitIndex (lvl : Level) (s : State) : (edgeWaiting lvl s).responseBitIndex = s.responseBitIndex := rfl
@[simp] theorem edgeWaiting_isSlave (lvl : Level) (s : State) : (edgeWaiting lvl s).isSlave = s.isSlave := rfl
@[simp] theorem edgeWaiting_responseStatus (lvl : Level) (s : State) : (edgeWaiting lvl s).responseStatus = s.responseStatus := rfl
@[simp] theorem edgeWaiting_now (lvl : Level) (s : State) : (edgeWaiting lvl s).now = s.now := rfl
@[simp] theorem edgeWaiting_txdata (lvl : Level) (s : State) : (edgeWaiting lvl s).txdata = s.txdata := rfl
@[simp] theorem edgeWaiting_txBusy (lvl : Level) (s : State) : (edgeWaiting lvl s).txBusy = s.txBusy := rfl
@[simp] theorem edgeWaiting_txKind (lvl : Level) (s : State) : (edgeWaiting lvl s).txKind = s.txKind := rfl
@[simp] theorem edgeWaiting_txFrame (lvl : Level) (s : State) : (edgeWaiting lvl s).txFrame = s.txFrame := rfl
@[simp] theorem edgeWaiting_txHp (lvl : Level) (s : State) : (edgeWaiting lvl s).txHp = s.txHp := rfl
@[simp] theorem edgeWaiting_txCnt (lvl : Level) (s : State) : (edgeWaiting lvl s).txCnt = s.txCnt := rfl
@[simp] theorem edgeWaiting_lineOut (lvl : Level) (s : State) : (edgeWaiting lvl s).lineOut = s.lineOut := rfl
@[simp] theorem edgeWaiting_lineOe (lvl : Level) (s : State) : (edgeWaiting lvl s).lineOe = s.lineOe := rfl
@[simp] theorem edgeWaiting_rxPrev (lvl : Level) (s : State) : (edgeWaiting lvl s).rxPrev = s.rxPrev := rfl
@[simp] theorem edgeWaiting_cmdOk (lvl : Level) (s : State) : (edgeWaiting lvl s).cmdOk = s.cmdOk := rfl
@[simp] theorem edgeWaiting_done (lvl : Level) (s : State) : (edgeWaiting lvl s).done = s.done := rfl
@[simp] theorem edgeWaiting_doneFrame (lvl : Level) (s : State) : (edgeWaiting lvl s).doneFrame = s.doneFrame := rfl
@[simp] theorem edgeWaiting_irqEn (lvl : Level) (s : State) : (edgeWaiting lvl s).irqEn = s.irqEn := rfl
@[simp] theorem edgeWaiting_codecFrame (lvl : Level) (s : State) : (edgeWaiting lvl s).codecFrame = s.codecFrame := rfl
@[simp] theorem edgeWaiting_doneValid (lvl : Level) (s : State) : (edgeWaiting lvl s).doneValid = s.doneValid := rfl
@[simp] theorem edgeWaiting_rdata (lvl : Level) (s : State) : (edgeWaiting lvl s).rdata = s.rdata := rfl
@[simp] theorem edgeWaiting_params (lvl : Level) (s : State) : (edgeWaiting lvl s).params = s.params := rfl
@[simp] theorem edgeWaiting_inputs (lvl : Level) (s : State) : (edgeWaiting lvl s).inputs = s.inputs := rfl

/-! ### The state after reset -/

@[simp] theorem resetWith_status (p : Config.Params) (b : Bool) : (State.resetWith p b).status = .notInitialized := rfl
@[simp] theorem resetWith_response (p : Config.Params) (b : Bool) : (State.resetWith p b).response = 0 := rfl
@[simp] theorem resetWith_responseTimestamp (p : Config.Params) (b : Bool) : (State.resetWith p b).responseTimestamp = 0 := rfl
@[simp] theorem resetWith_responseBitIndex (p : Config.Params) (b : Bool) : (State.resetWith p b).responseBitIndex = 0 := rfl
@[simp] theorem resetWith_isSlave (p : Config.Params) (b : Bool) : (State.resetWith p b).isSlave = b := rfl
@[simp] theorem resetWith_responseStatus (p : Config.Params) (b : Bool) : (State.resetWith p b).responseStatus = .none := rfl
@[simp] theorem resetWith_now (p : Config.Params) (b : Bool) : (State.resetWith p b).now = 0 := rfl
@[simp] theorem resetWith_txdata (p : Config.Params) (b : Bool) : (State.resetWith p b).txdata = 0 := rfl
@[simp] theorem resetWith_txBusy (p : Config.Params) (b : Bool) : (State.resetWith p b).txBusy = false := rfl
@[simp] theorem resetWith_txKind (p : Config.Params) (b : Bool) : (State.resetWith p b).txKind = .request := rfl
@[simp] theorem resetWith_txFrame (p : Config.Params) (b : Bool) : (State.resetWith p b).txFrame = 0 := rfl
@[simp] theorem resetWith_txHp (p : Config.Params) (b : Bool) : (State.resetWith p b).txHp = 0 := rfl
@[simp] theorem resetWith_txCnt (p : Config.Params) (b : Bool) : (State.resetWith p b).txCnt = 0 := rfl
@[simp] theorem resetWith_lineOut (p : Config.Params) (b : Bool) : (State.resetWith p b).lineOut = .idle := rfl
@[simp] theorem resetWith_lineOe (p : Config.Params) (b : Bool) : (State.resetWith p b).lineOe = false := rfl
@[simp] theorem resetWith_rxPrev (p : Config.Params) (b : Bool) : (State.resetWith p b).rxPrev = .idle := rfl
@[simp] theorem resetWith_cmdOk (p : Config.Params) (b : Bool) : (State.resetWith p b).cmdOk = false := rfl
@[simp] theorem resetWith_done (p : Config.Params) (b : Bool) : (State.resetWith p b).done = false := rfl
@[simp] theorem resetWith_doneFrame (p : Config.Params) (b : Bool) : (State.resetWith p b).doneFrame = 0 := rfl
@[simp] theorem resetWith_irqEn (p : Config.Params) (b : Bool) : (State.resetWith p b).irqEn = false := rfl
@[simp] theorem resetWith_codecFrame (p : Config.Params) (b : Bool) : (State.resetWith p b).codecFrame = 0 := rfl
@[simp] theorem resetWith_doneValid (p : Config.Params) (b : Bool) : (State.resetWith p b).doneValid = false := rfl
@[simp] theorem resetWith_rdata (p : Config.Params) (b : Bool) : (State.resetWith p b).rdata = 0 := rfl
@[simp] theorem resetWith_params (p : Config.Params) (b : Bool) : (State.resetWith p b).params = p := rfl
@[simp] theorem resetWith_inputs (p : Config.Params) (b : Bool) : (State.resetWith p b).inputs = [] := rfl

@[simp] theorem resetAs_eq (b : Bool) : State.resetAs b = State.resetWith Config.defaults b := rfl

end Sys2Proof.Machine
end

