-- ==== Sys2Proof/Laws/Time.lean ====
section
/-! SUPPORT. What a microsecond can do, and that any number of microseconds is that many single ones (rules R22, R113). -/

namespace Sys2Proof.Machine

theorem microsecond_idle {s : State} (h : s.txBusy = false) : microsecond s = tick s := by
  simp [microsecond, h]

theorem microsecond_busy {s : State} (h : s.txBusy = true) : microsecond s = txStep (tick s) := by
  simp [microsecond, h]

/-- Inside a half-period only the count moves (rule R113). -/
theorem txStep_inside {s : State} (h : s.txCnt.toNat + 1 < s.params.tHalf) :
    txStep s = { s with txCnt := s.txCnt + 1 } := by
  simp [txStep, h]

/-- A half-period ends and another begins (rule R113). -/
theorem txStep_boundary {s : State} (h : s.params.tHalf ≤ s.txCnt.toNat + 1) (k : s.txHp.toNat < s.params.lastHp) :
    txStep s = { s with txCnt := 0, txHp := s.txHp + 1, lineOut := hpLevel s.txFrame (s.txHp.toNat + 1) } := by
  simp [txStep, Nat.not_lt.mpr h, k]

/-- The frame ends (rule R117). -/
theorem txStep_final {s : State} (h : s.params.tHalf ≤ s.txCnt.toNat + 1) (k : s.params.lastHp ≤ s.txHp.toNat) :
    txStep s = finalStep s := by
  simp [txStep, Nat.not_lt.mpr h, Nat.not_lt.mpr k]

@[simp] theorem elapse_zero (s : State) : elapse 0 s = s := rfl

/-- Any number of microseconds with the transmit agent idle: only `now` moves. -/
theorem elapse_idle {s : State} (h : s.txBusy = false) (n : Nat) :
    elapse n s = { s with now := s.now + BitVec.ofNat 32 n } := by
  cases n with
  | zero => simp
  | succ n => simp [elapse, h]

/-- One microsecond, then the rest. -/
theorem elapse_succ (n : Nat) (s : State) : elapse (n + 1) s = elapse n (microsecond s) := by
  cases h : s.txBusy with
  | true => simp [elapse, h]
  | false =>
    rw [elapse_idle h, microsecond_idle h, elapse_idle (by simp [h])]
    simp only [tick, BitVec.ofNat_add, BitVec.ofNat_eq_ofNat, BitVec.add_assoc, BitVec.add_comm (1#32)]

/-- `n` microseconds are `n` single ones. -/
theorem elapse_eq_iterate (n : Nat) (s : State) : elapse n s = microsecond^[n] s := by
  induction n generalizing s with
  | zero => rfl
  | succ n ih => rw [elapse_succ, ih, Function.iterate_succ_apply]

/-- Time adds up. -/
theorem elapse_add (m n : Nat) (s : State) : elapse (m + n) s = elapse n (elapse m s) := by
  simp only [elapse_eq_iterate, Nat.add_comm m n, Function.iterate_add_apply]

/-- Anything every microsecond keeps, any number of microseconds keeps. -/
theorem elapse_keeps {P : State → Prop} (step : ∀ s, P s → P (microsecond s)) (n : Nat) {s : State} (h : P s) :
    P (elapse n s) := by
  induction n generalizing s with
  | zero => exact h
  | succ n ih => rw [elapse_succ]; exact ih (step s h)

/-- What no microsecond touches: the receive accumulator, the role, the latches, the host's registers, the detector. -/
theorem microsecond_frame (s : State) :
    microsecond s =
      { s with
        now := s.now + 1
        status := (microsecond s).status
        responseTimestamp := (microsecond s).responseTimestamp
        txBusy := (microsecond s).txBusy
        txHp := (microsecond s).txHp
        txCnt := (microsecond s).txCnt
        lineOut := (microsecond s).lineOut
        cmdOk := (microsecond s).cmdOk } := by
  cases h : s.txBusy with
  | false => rw [microsecond_idle h]; rfl
  | true =>
    rw [microsecond_busy h]
    unfold txStep finalStep
    split
    · rfl
    · split
      · rfl
      · split <;> rfl

end Sys2Proof.Machine
end

