-- ==== Sys2Proof/Laws/Receive.lean ====
section
/-! SUPPORT. The edge handler, one lemma per status (rules R126 to R133), and what an edge event cannot touch (rule R174). -/

namespace Sys2Proof.Machine

/-- RESPONSE_WAITING takes the first edge whenever it comes (rule R126). -/
theorem edgeHandler_waiting {s : State} (h : s.status = .responseWaiting) (lvl : Level) :
    edgeHandler lvl s = edgeWaiting lvl s := by
  simp [edgeHandler, chainedStatus, h]

/-- A slave in READY takes an edge to ACTIVE as the start of a frame (rule R131). -/
theorem edgeHandler_slave_start {s : State} (h : s.status = .ready) (r : s.isSlave = true) :
    edgeHandler .active s = edgeWaiting .active s := by
  simp [edgeHandler, chainedStatus, h, r]

/-- READY otherwise ignores the edge (rule R131). -/
theorem edgeHandler_ready_ignores {s : State} (h : s.status = .ready) {lvl : Level}
    (k : s.isSlave = false ∨ lvl = .idle) : edgeHandler lvl s = s := by
  rcases k with k | k <;> simp [edgeHandler, chainedStatus, h, k]

theorem edgeHandler_startBit {s : State} (h : s.status = .responseStartBit) (lvl : Level) :
    edgeHandler lvl s = edgeStartBit lvl s := by
  simp [edgeHandler, chainedStatus, h]

theorem edgeHandler_receiving {s : State} (h : s.status = .responseReceiving) (lvl : Level) :
    edgeHandler lvl s = edgeReceiving lvl s := by
  simp [edgeHandler, chainedStatus, h]

/-- The five statuses without a row (rule R132). -/
theorem edgeHandler_deaf {s : State} (lvl : Level)
    (h : s.status = .notInitialized ∨ s.status = .requestSending ∨ s.status = .responseReady ∨
      s.status = .responseInvalid ∨ s.status = .delay) : edgeHandler lvl s = s := by
  rcases h with h | h | h | h | h <;> simp [edgeHandler, chainedStatus, h]

/-- An edge event writes four registers of the session and the detector's level, and nothing else (rules R134, R174). -/
theorem edgeEvent_frame (lvl : Level) (s : State) :
    edgeEvent lvl s =
      { s with
        rxPrev := lvl
        status := (edgeEvent lvl s).status
        response := (edgeEvent lvl s).response
        responseTimestamp := (edgeEvent lvl s).responseTimestamp
        responseBitIndex := (edgeEvent lvl s).responseBitIndex } := by
  unfold edgeEvent edgeHandler
  split
  · rfl
  · unfold edgeStartBit; split <;> rfl
  · unfold edgeReceiving; split
    · split <;> rfl
    · rfl
  all_goals rfl

@[simp] theorem sample_same {s : State} {lvl : Level} (h : s.rxPrev = lvl) : sample lvl s = s := by
  simp [sample, h]

theorem sample_edge {s : State} {lvl : Level} (h : s.rxPrev ≠ lvl) : sample lvl s = edgeEvent lvl s := by
  simp [sample, h]

@[simp] theorem edgeEvent_rxPrev (lvl : Level) (s : State) : (edgeEvent lvl s).rxPrev = lvl := by
  rw [edgeEvent_frame]

/-- After sampling, the detector holds the sampled level (rule R26). -/
@[simp] theorem sample_rxPrev (lvl : Level) (s : State) : (sample lvl s).rxPrev = lvl := by
  unfold sample
  split
  · assumption
  · simp

@[simp] theorem edgeEvent_now (lvl : Level) (s : State) : (edgeEvent lvl s).now = s.now := by
  rw [edgeEvent_frame]

@[simp] theorem edgeEvent_txBusy (lvl : Level) (s : State) : (edgeEvent lvl s).txBusy = s.txBusy := by
  rw [edgeEvent_frame]

/-- Anything an edge event keeps, sampling keeps. -/
theorem sample_keeps {P : State → Prop} (edge : ∀ lvl s, P s → P (edgeEvent lvl s)) (lvl : Level) {s : State}
    (h : P s) : P (sample lvl s) := by
  unfold sample
  split
  · exact h
  · exact edge lvl s h

/-- Anything an edge event and a microsecond keep, a frame on the wire keeps. -/
theorem receiveFrame_keeps {P : State → Prop} (edge : ∀ lvl s, P s → P (edgeEvent lvl s))
    (us : ∀ s, P s → P (microsecond s)) (start : Bool) (f : Word) (stop : Bool) {s : State} (h : P s) :
    P (receiveFrame start f stop s) := by
  have half : ∀ lvl s, P s → P (halfPeriod lvl s) := fun lvl s hs =>
    elapse_keeps us s.params.tHalf (sample_keeps edge lvl hs)
  have one : ∀ s b, P s → P (slot s b) := fun s b hs => half _ _ (half _ _ hs)
  unfold receiveFrame
  induction wireBits start f stop generalizing s with
  | nil => exact h
  | cons b bs ih => exact ih (one s b h)

end Sys2Proof.Machine
end

