-- ==== Sys2Proof/Laws/Session.lean ====
section
/-! SUPPORT. What POLL can do, the two sends, and that writing a command word to CMD runs the command it encodes (rules R140,
R149). -/

namespace Sys2Proof.Machine

/-- A status POLL times out (rule R150). -/
theorem pollEffect_receiving {s : State}
    (h : s.status = .responseWaiting ∨ s.status = .responseStartBit ∨ s.status = .responseReceiving) :
    pollEffect s =
      if s.params.tTimeout < s.sinceEvent then emitCompletion s.response .timeout { s with status := .ready } else s := by
  rcases h with h | h | h <;> simp [pollEffect, h]

/-- A frame complete (rule R151). -/
theorem pollEffect_complete {s : State} (h : s.status = .responseReady) :
    pollEffect s =
      emitCompletion s.response (if isValidFor s.isSlave s.response then .success else .invalid)
        { s with status := .delay } := by
  simp [pollEffect, h]

/-- A malformed waveform (rule R152). -/
theorem pollEffect_malformed {s : State} (h : s.status = .responseInvalid) :
    pollEffect s = emitCompletion s.response .invalid { s with status := .delay } := by
  simp [pollEffect, h]

/-- The end of the delay (rule R153). -/
theorem pollEffect_delay {s : State} (h : s.status = .delay) :
    pollEffect s = if s.params.tDelay < s.sinceEvent then { s with status := .ready } else s := by
  simp [pollEffect, h]

/-- The statuses POLL leaves alone (rule R148). -/
theorem pollEffect_nothing {s : State}
    (h : s.status = .notInitialized ∨ s.status = .ready ∨ s.status = .requestSending) : pollEffect s = s := by
  rcases h with h | h | h <;> simp [pollEffect, h]

/-- POLL never writes the receive registers, the line, the transmit agent or the host's own registers (rule R149). -/
theorem pollEffect_frame (s : State) :
    pollEffect s =
      { s with
        status := (pollEffect s).status
        responseStatus := (pollEffect s).responseStatus
        done := (pollEffect s).done
        doneFrame := (pollEffect s).doneFrame
        doneValid := (pollEffect s).doneValid } := by
  unfold pollEffect
  split
  case h_1 | h_2 | h_3 => split <;> rfl
  case h_6 => split <;> rfl
  all_goals rfl

/-- The two opcode tables agree: the command a CMD write runs is the decoded command (rules R42, R140). -/
theorem runCommand_eq_exec (w : Word) (s : State) : runCommand w s = exec (decodeCmd w) s := by
  unfold runCommand decodeCmd
  generalize (w.extractLsb' 28 4).toNat = opc
  rcases opc with _ | _ | _ | _ | _ | _ | _ | _ | _ | _ | _ | _ | _ | _ | _ | opc <;> rfl

/-- Every command word has an effect; none is refused by the machine (rule R161, "no operation throws"). -/
theorem runCommand_answers (w : Word) (s : State) : ∃ t, runCommand w s = .next t := by
  unfold runCommand
  split <;> exact ⟨_, rfl⟩

end Sys2Proof.Machine
end

