-- ==== Sys2Proof/Machine/HostSoftware.lean ====
section
/-! DEFINITION. The host sequences the spec defines over the register port (rules R79, R154): the pseudo-operations and the
blocking `sendRequest`. The line environment is free wherever it may move between the host's accesses: before the send, during
the 34,000 µs for which it holds the host, before each POLL and each read (rules R5, R56(d); 93_implementation_defined.md U9).
What it does there is an argument (log 14). -/

namespace Sys2Proof.Machine

/-- What happens on the line while the host makes no access. -/
inductive LineEvent where
  /-- time passes -/
  | pass (us : Nat)
  /-- the line takes a level and the detector samples it -/
  | level (lvl : Level)
  deriving DecidableEq, Repr

/-- One line event. -/
def lineEvent (s : State) : LineEvent → State
  | .pass us => elapse us (endPulse s)
  | .level lvl => sample lvl (endPulse s)

/-- What happens on the line between two accesses of the host. -/
def lineEvents (es : List LineEvent) (s : State) : State := es.foldl lineEvent s

/-- The host waits until `ready` is 1 again (rule R49). `es` is what happens on the line meanwhile; where it ends before the
transmission does, the line is silent for the rest (log 14). -/
def awaitPort (es : List LineEvent) (s : State) : State :=
  let t := lineEvents es s
  elapse (holdTime t) t

/-- `RD STATUS` (rule R44). -/
def readStatus (s : State) : State := readReg 1 (endPulse s)

/-- `WR TXDATA, f` (rule R43). -/
def writeTxdata (f : Word) (s : State) : State := { endPulse s with txdata := f }

/-- `isReady()`: bits 3:0 of a STATUS word are 1 (rule R79(a)). -/
def isReadyWord (w : Word) : Bool := w.extractLsb' 0 4 == 1

/-- `getLastResponseStatus()`: bits 6:5 of a STATUS word (rules R79(b), R165). -/
def lastResponseStatusWord (w : Word) : BitVec 2 := w.extractLsb' 5 2

/-- `sendRequestAsync(f)`: the boolean is CMD_OK, bit 7 of STATUS (rule R79(c)). `setup` happens on the line between the write
of TXDATA and the command, `during` between the command and the read of STATUS. -/
def sendRequestAsync (f : Word) (setup during : List LineEvent) (s : State) : Bool × State :=
  let t := readStatus (awaitPort during (cmdSendRequest (endPulse (lineEvents setup (writeTxdata f s)))))
  (t.rdata.getLsbD 7, t)

/-- `sendResponse(f)` (rule R79(d)). -/
def sendResponseFrame (f : Word) (setup during : List LineEvent) (s : State) : State :=
  awaitPort during (cmdSendResponse (endPulse (lineEvents setup (writeTxdata f s))))

/-- What happens on the line in one round of the blocking loop: before its POLL, and between POLL and RD STATUS. -/
structure Round where
  before : List LineEvent
  between : List LineEvent
  deriving DecidableEq, Repr

/-- What happens on the line during a blocking `sendRequest`. -/
structure LineScript where
  /-- between the write of TXDATA and SEND_REQUEST -/
  setup : List LineEvent
  /-- from SEND_REQUEST to the read of STATUS, the held 34,000 µs included -/
  during : List LineEvent
  /-- the rounds of the loop -/
  rounds : List Round
  /-- between the last RD STATUS and RD RESPONSE -/
  last : List LineEvent
  deriving DecidableEq, Repr

/-- One round of the blocking loop: `POLL`, `RD STATUS` (rule R79(e)). -/
def pollRound (r : Round) (s : State) : State :=
  readStatus (lineEvents r.between (cmdPoll (endPulse (lineEvents r.before s))))

/-- What the blocking loop returns when STATUS has come back to READY: RESPONSE on SUCCESS, else 0 (rules R79(e), R154). -/
def sendRequestResult (last : List LineEvent) (s : State) : Word × State :=
  if lastResponseStatusWord s.rdata = 1 then
    let t := readReg 3 (endPulse (lineEvents last s))
    (t.rdata, t)
  else (0, s)

/-- The blocking loop; `none` when the rounds given end before STATUS is READY (rule R154). -/
def pollUntilReady : List Round → List LineEvent → State → Option (Word × State)
  | [], _, _ => none
  | r :: rs, last, s =>
    let t := pollRound r s
    if isReadyWord t.rdata then some (sendRequestResult last t) else pollUntilReady rs last t

/-- `sendRequest(f)`, the blocking composition: 0 at once if the send is refused, else the loop (rules R79(e), R154). -/
def sendRequestBlocking (f : Word) (line : LineScript) (s : State) : Option (Word × State) :=
  let r := sendRequestAsync f line.setup line.during s
  if r.1 then pollUntilReady line.rounds line.last r.2 else some (0, r.2)

end Sys2Proof.Machine
end

