-- ==== Sys2Proof/Machine/Link.lean ====
section
/-! DEFINITION. Two engines back to back (rule R177): each one's output is the other's input, ACTIVE to ACTIVE, with no delay,
and nothing else is shared. -/

namespace Sys2Proof.Machine

/-- The two engines of a link. -/
structure Link where
  left : State
  right : State
  deriving DecidableEq, Repr

/-- The level an engine puts on the wire; an output that is not driven leaves it IDLE (rules R25, R118, log 10). -/
def wireLevel (s : State) : Level := if s.lineOe then s.lineOut else .idle

/-- Each engine samples the other's output. -/
def Link.settle (l : Link) : Link where
  left := sample (wireLevel l.right) l.left
  right := sample (wireLevel l.left) l.right

/-- The left host makes an access, whose effect on the wire the right engine senses in the same microsecond. -/
def Link.onLeft (op : State → State) (l : Link) : Link := Link.settle { l with left := op (endPulse l.left) }

/-- The right host makes an access. -/
def Link.onRight (op : State → State) (l : Link) : Link := Link.settle { l with right := op (endPulse l.right) }

/-- One microsecond of both engines: both `now` counters run together (program P5). -/
def Link.microsecond (l : Link) : Link :=
  Link.settle
    { left := Sys2Proof.Machine.microsecond (endPulse l.left), right := Sys2Proof.Machine.microsecond (endPulse l.right) }

/-- `n` microseconds of both engines. -/
def Link.elapse : Nat → Link → Link
  | 0, l => l
  | n + 1, l => Link.elapse n (Link.microsecond l)

end Sys2Proof.Machine
end

