-- ==== Sys2Proof/Safety.lean ====
section
/-! DEFINITION. The terms claims are stated in: which parameters fit the engine's widths and read their own frames, the
invariant of every reachable state (rule R36), the steps of each agent (rule R5), the table of every transition of `status`
(rule R158), and what it means that a state differs from another only in named fields. -/

namespace Sys2Proof.Config

/-- The parameters fit the widths of the transmit counters, 9 bits of `tx_cnt` and 7 of `tx_hp` (rules R24, R119). -/
def Params.fits (p : Params) : Prop := 0 < p.tHalf ∧ p.tHalf ≤ 512 ∧ 0 < p.nSlots ∧ p.nSlots ≤ 64

/-- A receiver built with these parameters reads what a transmitter built with them sends: `T_HALF` < `T_SAMPLE` <
2 * `T_HALF` (92_eei_decisions.md, OPEN parameters), in the 34 slots of a 32-bit frame (rule R62). -/
def Params.reads (p : Params) : Prop :=
  p.fits ∧ p.nSlots = 34 ∧ p.tHalf < p.tSample ∧ p.tSample < 2 * p.tHalf

end Sys2Proof.Config

namespace Sys2Proof.Machine

/-- The invariant of rule R36. Clause (a), `status` is one of nine values, holds by the type; clause (g), `isSlave` never
changes, is about two states. -/
structure State.Inv (s : State) : Prop where
  /-- (b) -/
  bitIndex : s.responseBitIndex.toNat ≤ 32
  /-- (c) -/
  busy : s.txBusy = true ↔ s.status = .requestSending
  /-- (d) -/
  halfPeriod : s.txHp.toNat ≤ s.params.lastHp
  /-- (d) -/
  count : s.txCnt.toNat < s.params.tHalf
  /-- (e) -/
  quiet : s.txBusy = false → s.lineOut = .idle
  /-- (f) -/
  driven : s.lineOe = false ↔ s.status = .notInitialized

/-- Who makes a step (rules R5, R158). -/
inductive Agent where
  | reset
  /-- a host command with this opcode -/
  | host (opc : BitVec 4)
  /-- a host access that is no command -/
  | port
  /-- the tick, and the transmit agent after it -/
  | transmit
  | edge (lvl : Level)
  /-- the outside world: what it presents is taken, and the `done_valid` pulse of the step before ends -/
  | world
  deriving DecidableEq, Repr

/-- The transmit agent's step is the final one of the frame (rules R113, R117). -/
def State.frameEnds (s : State) : Prop := s.params.tHalf ≤ s.txCnt.toNat + 1 ∧ s.params.lastHp ≤ s.txHp.toNat

/-- The transitions of `status`: one constructor per row of rule R158, in its order. -/
inductive StatusMove : Agent → State → Status → Prop where
  | reset (s : State) : StatusMove .reset s .notInitialized
  | begin (s : State) (h : s.status = .notInitialized) : StatusMove (.host 1) s .ready
  | sendRequest (s : State) (h : s.status = .ready) : StatusMove (.host 3) s .requestSending
  | sendResponse (s : State) (h : s.status ≠ .notInitialized) (h' : s.status ≠ .requestSending) :
      StatusMove (.host 4) s .requestSending
  | requestSent (s : State) (h : s.status = .requestSending) (e : s.frameEnds) (k : s.txKind = .request) :
      StatusMove .transmit s .responseWaiting
  | responseSent (s : State) (h : s.status = .requestSending) (e : s.frameEnds) (k : s.txKind = .response) :
      StatusMove .transmit s .ready
  | slaveStart (s : State) (h : s.status = .ready) (r : s.isSlave = true) :
      StatusMove (.edge .active) s .responseStartBit
  | start (s : State) (h : s.status = .responseWaiting) : StatusMove (.edge .active) s .responseStartBit
  | malformed (s : State) (h : s.status = .responseWaiting) : StatusMove (.edge .idle) s .responseInvalid
  | startMiddle (s : State) (h : s.status = .responseStartBit) (e : s.sinceEvent < s.params.tSample) :
      StatusMove (.edge .idle) s .responseReceiving
  | startRejected (lvl : Level) (s : State) (h : s.status = .responseStartBit)
      (e : ¬(s.sinceEvent < s.params.tSample ∧ lvl = .idle)) : StatusMove (.edge lvl) s .responseInvalid
  | bit (lvl : Level) (s : State) (h : s.status = .responseReceiving) (e : s.params.tSample < s.sinceEvent)
      (i : s.responseBitIndex.toNat < 32) : StatusMove (.edge lvl) s .responseReceiving
  | stop (lvl : Level) (s : State) (h : s.status = .responseReceiving) (e : s.params.tSample < s.sinceEvent)
      (i : s.responseBitIndex.toNat = 32) : StatusMove (.edge lvl) s .responseReady
  | timeout (s : State)
      (h : s.status = .responseWaiting ∨ s.status = .responseStartBit ∨ s.status = .responseReceiving)
      (e : s.params.tTimeout < s.sinceEvent) : StatusMove (.host 2) s .ready
  | complete (s : State) (h : s.status = .responseReady) : StatusMove (.host 2) s .delay
  | invalid (s : State) (h : s.status = .responseInvalid) : StatusMove (.host 2) s .delay
  | delayEnds (s : State) (h : s.status = .delay) (e : s.params.tDelay < s.sinceEvent) : StatusMove (.host 2) s .ready

/-- `t` has the registers a host reads (every word of the window) as `s` has them, but for those listed in `except`. -/
def sameRegisters (except : List (BitVec 4)) (s t : State) : Prop :=
  ∀ index : BitVec 4, index ∉ except → regValue index t = regValue index s

/-- The opcode of a command word (rule R70). -/
def opcodeOf (w : Word) : BitVec 4 := w.extractLsb' 28 4

/-- The operation is the host command with opcode `opc`: its own row, or a CMD write of a word with that opcode (rule R42). -/
def isCommand (opc : BitVec 4) (i : Instr) : Prop :=
  (∃ w : Word, opcodeOf w = opc ∧ i = decodeCmd w) ∨ (∃ w : Word, opcodeOf w = opc ∧ i = .regCmd (.write w))

/-- The edge event of a level (rule R125). -/
def edgeInstr : Level → Instr
  | .active => .edgeActive
  | .idle => .edgeIdle

/-- The symbol of a bit (rule R60). -/
def symbolInstr : Bool → Instr
  | true => .bit1
  | false => .bit0

/-- One atomic step of one agent (rules R5, R50). A host access is made only while the port is not held (rule R49). -/
inductive AgentStep : Agent → State → State → Prop where
  | reset (strap : Bool) (rest : List Input) (s : State) :
      AgentStep .reset s { State.resetWith s.params strap with inputs := rest }
  | command (w : Word) (s t : State) (free : s.txBusy = false) (h : runCommand w s = .next t) :
      AgentStep (.host (opcodeOf w)) s t
  | access (i : Instr) (s t : State) (host : i.isHostAccess = true) (other : ∀ opc, ¬ isCommand opc i)
      (free : s.txBusy = false) (h : exec i s = .next t) : AgentStep .port s t
  | transmit (s : State) : AgentStep .transmit s (microsecond s)
  | edge (lvl : Level) (s : State) : AgentStep (.edge lvl) s (edgeEvent lvl s)
  | world (rest : List Input) (s : State) : AgentStep .world s { s with inputs := rest, doneValid := false }

/-- A status in which an exchange is under way or its result is not yet reported (rules R150 to R152, R160). -/
def Status.inExchange : Status → Bool
  | .responseWaiting | .responseStartBit | .responseReceiving | .responseReady | .responseInvalid => true
  | .notInitialized | .ready | .requestSending | .delay => false

end Sys2Proof.Machine
end

