-- ==== Sys2Proof/Laws/Step.lean ====
section
/-! SUPPORT. Everything a step can do, and the shared shapes of the meanings, said once. -/

namespace Sys2Proof.Machine

/-- What a waveform that spells no operation leaves: a frame on the line, or two half-periods at one level (rule R75). -/
theorem presentMisfit_cases {m : Misfit} {s t : State} (h : presentMisfit m s = .next t) :
    (∃ start f stop, t = receiveFrame start f stop s) ∨ ∃ lvl, t = halfPeriod lvl (halfPeriod lvl s) := by
  cases m with
  | startSlotNotOne f stop => simp only [presentMisfit, Host.Outcome.next.injEq] at h; exact .inl ⟨_, _, _, h.symm⟩
  | stopSlotNotOne f => simp only [presentMisfit, Host.Outcome.next.injEq] at h; exact .inl ⟨_, _, _, h.symm⟩
  | flatSymbol lvl => simp only [presentMisfit, Host.Outcome.next.injEq] at h; exact .inr ⟨_, h.symm⟩
  | registerMisaligned => cases h

/-- A step that answers a next state does one of seven things, by what is presented (rules R49, R50, R75, R170, R190). -/
theorem step_cases {s t : State} (h : step s = .next t) :
    t = microsecond (endPulse s) ∨
    (∃ b rest i, s.inputs = .word b :: rest ∧ decodeBits b = .ok i ∧ (i.isHostAccess = true → s.txBusy = false) ∧
      exec i { endPulse s with inputs := rest } = .next t) ∨
    (∃ b rest m, s.inputs = .word b :: rest ∧ decodeBits b = .error m ∧
      presentMisfit m { endPulse s with inputs := rest } = .next t) ∨
    (∃ us rest, s.inputs = .wait us :: rest ∧ t = elapse us { endPulse s with inputs := rest }) ∨
    (∃ boundary lvl port rest, s.inputs = .clock boundary lvl port :: rest ∧
      hostTurn port (clockAgents boundary lvl { endPulse s with inputs := rest }) = .next t) ∨
    (∃ we addr n wdata rest p, s.inputs = .bus we addr n wdata :: rest ∧ bridge we addr n wdata = .ok p ∧
      s.txBusy = false ∧ exec (regInstr p.index p.access) { endPulse s with inputs := rest } = .next t) ∨
    (∃ strap rest, s.inputs = .reset strap :: rest ∧ t = { State.resetWith s.params strap with inputs := rest }) := by
  unfold step stepOn at h
  simp only [endPulse_inputs] at h
  split at h
  · cases h; exact .inl rfl
  · rename_i b rest e
    split at h
    · rename_i m d
      exact .inr (.inr (.inl ⟨b, rest, m, e, d, h⟩))
    · rename_i i d
      split at h
      · cases h; exact .inl rfl
      · rename_i free
        exact .inr (.inl ⟨b, rest, i, e, d, by simpa [State.held] using free, h⟩)
  · rename_i us rest e
    cases h
    exact .inr (.inr (.inr (.inl ⟨us, rest, e, rfl⟩)))
  · rename_i boundary lvl port rest e
    exact .inr (.inr (.inr (.inr (.inl ⟨boundary, lvl, port, rest, e, h⟩))))
  · rename_i we addr n wdata rest e
    split at h
    · cases h
    · rename_i p d
      split at h
      · cases h; exact .inl rfl
      · rename_i free
        exact .inr (.inr (.inr (.inr (.inr (.inl
          ⟨we, addr, n, wdata, rest, p, e, d, by simpa [State.held] using free, h⟩)))))
  · rename_i strap rest e
    cases h
    exact .inr (.inr (.inr (.inr (.inr (.inr ⟨strap, rest, e, rfl⟩)))))

/-- The host's turn in a clock period: nothing, or one access on a port that is not held (rule R170). -/
theorem hostTurn_cases {port : Option PortRequest} {s t : State} (h : hostTurn port s = .next t) :
    t = s ∨ ∃ p, port = some p ∧ s.txBusy = false ∧ exec (regInstr p.index p.access) s = .next t := by
  unfold hostTurn at h
  split at h
  · cases h; exact .inl rfl
  · rename_i p
    split at h
    · cases h; exact .inl rfl
    · rename_i free
      exact .inr ⟨p, rfl, Bool.eq_false_iff.mpr free, h⟩

/-- A read of any word of the window returns it on `rdata` and does nothing else (rules R41 to R48, R53, R54). -/
theorem exec_read (index : BitVec 4) (s : State) : exec (regInstr index .read) s = .next (readReg index s) := by
  have cover : ∀ k : BitVec 4, k ∈ [0#4, 1, 2, 3, 4, 5, 6, 7, 8, 9, 10, 11, 12, 13, 14, 15] := by decide
  have := cover index
  simp only [List.mem_cons, List.not_mem_nil, or_false] at this
  rcases this with h | h | h | h | h | h | h | h | h | h | h | h | h | h | h | h <;> subst h <;> rfl

end Sys2Proof.Machine
end

