-- ==== Sys2Proof/Certificates/Slice0/Obligations.lean ====
section
/-! DEFINITION. The statements for the provers. Each says which sentence of the spec it formalises; a statement whose result
is `exec … = .next { s with … }` says in one equation what the operation writes, that it completes, and that every other
register, flag, latch and input is unchanged. -/

open Sys2Proof Sys2Proof.Machine

/-! ### Encodings -/

/-- Words written out from the layouts of rules R70, R72, R65, R62, R60 and R41 decode to what they stand for. That a 32-bit
table word is a command, and the bytes of a register access, a symbol, an edge and a wire frame, are the model's choice
(logs 6 and 7). -/
def Obligations.WrittenWordsDecode : Prop :=
  decodeTableWord 32 0x00000000 = some (.nop 0) ∧
  decodeTableWord 32 0x20000000 = some (.poll 0) ∧
  decodeTableWord 32 0x51013C00 = some (.buildRequest 0 1 0x01 0x3C00) ∧
  decodeTableWord 32 0x64191234 = some (.buildResponse 0 4 0x19 0x1234) ∧
  decodeTableWord 32 0xF0000000 = some (.cmdReservedF 0) ∧
  decode .frame [0x34, 0x12, 0x19, 0xC0] = .ok (.frameReadAck 1 0 0x19 0x1234) ∧
  decodeTableWord 40 0x300320001 = some (.wireFrame true 0x80190000 true) ∧
  decode .symbol [0b10] = .ok .bit1 ∧ decode .symbol [0b01] = .ok .bit0 ∧
  decode .event [1] = .ok .edgeActive ∧ decode .event [0] = .ok .edgeIdle ∧
  decodeTableWord 8 0x1C = some (.regIrqStatus .read) ∧
  decode .reg [0x24, 1, 0x00, 0x3C, 0x01, 0x50] = .ok (.regCodecFrame (.write 0x50013C00))

/-- Decoding the encoding of every well-formed operation gives it back, with every operand at every value (rules R41, R60,
R62, R65, R70). The bytes of a register access, of a symbol, of an edge and of a wire frame are the model's choice (log 7). -/
def Obligations.DecodeAfterEncode : Prop :=
  ∀ i : Instr, i.wf = true → decode (encode i).1 (encode i).2 = .ok i

/-- No bit is dropped by decoding: whatever bits of an interface decode to an operation, that operation is well formed and is
encoded by those bits and no others (rules R41, R60, R62, R65, R70, R77). -/
def Obligations.EncodeAfterDecode : Prop :=
  (∀ (b : Bits) (i : Instr), decodeBits b = .ok i → i.wf = true ∧ bitsOf i = b ∧ encode i = bytesOf b) ∧
  ∀ w : Word, encode (decodeCmd w) = (.cmd, wordBytes w) ∧ encode (decodeFrame w) = (.frame, wordBytes w)

/-- Thirty-four slots are a wire frame exactly when the first and the last carry 1 (rule R62); otherwise they are rejected by
name. On the wire they are a waveform all the same, and so is a symbol with no transition at its middle: the receiver gets the
levels as they are (rules R75, R198). That the decoder rejects a frame the receiver may take is the model's choice (log 13), and
that a waveform is one step too (log 5). -/
def Obligations.WireFrameNeedsStartAndStop : Prop :=
  (∀ (start : Bool) (f : Word) (stop : Bool),
    (decode .wire (bytesOf (.wire (wireWord start f stop))).2 =
      if start then (if stop then .ok (.wireFrame start f stop) else .error (.misfit (.stopSlotNotOne f)))
      else .error (.misfit (.startSlotNotOne f stop))) ∧
    ∀ (s : State) (rest : List Input), s.inputs = .word (.wire (wireWord start f stop)) :: rest →
      step s = .next (receiveFrame start f stop { s with inputs := rest, doneValid := false })) ∧
  ∀ (lvl : Level) (s : State) (rest : List Input),
    s.inputs = .word (.symbol (match lvl with | .idle => 0b00 | .active => 0b11)) :: rest →
    step s = .next (halfPeriod lvl (halfPeriod lvl { s with inputs := rest, doneValid := false }))

/-! ### Steps -/

/-- When the bits presented next decode to an operation, the step is `exec` of it on the state with the bits taken and the
`done_valid` pulse of the step before ended; a host access needs the port, which a transmission holds (rules R49, R50,
R164). That what is presented stands in a list, and that the pulse lasts one step, are the model's choice (logs 5 and 8). -/
def Obligations.StepRunsDecodedOperation : Prop :=
  ∀ (s : State) (b : Bits) (rest : List Input) (i : Instr),
    s.inputs = .word b :: rest → decodeBits b = .ok i → (i.isHostAccess = true → s.txBusy = false) →
    step s = exec i { s with inputs := rest, doneValid := false }

/-- While a frame is being sent a host access is not taken, at the port or at the bus bridge: a microsecond passes and the
access is still presented (rule R49). That waiting takes steps of one microsecond is the model's choice (log 5). -/
def Obligations.HeldHostWaits : Prop :=
  ∀ s : State, s.txBusy = true →
    (∃ b rest i, s.inputs = .word b :: rest ∧ decodeBits b = .ok i ∧ i.isHostAccess = true) ∨
      (∃ we index v rest, s.inputs = .bus we (Config.base + 4 * (index : BitVec 4).toNat) 4 v :: rest) →
    s.portReady = false ∧
    ∃ t, step s = .next t ∧ t = microsecond { s with doneValid := false } ∧ t.now = s.now + 1 ∧ t.inputs = s.inputs ∧
      t.txdata = s.txdata ∧ t.txFrame = s.txFrame

/-- Time: with nothing presented a step is one microsecond, and a wait of `n` microseconds is `n` of them; each moves `now`
by one and, with no frame in flight, nothing else (rule R22). The two forms of input are the model's choice (log 5). -/
def Obligations.TimePasses : Prop :=
  ∀ (s : State) (n : Nat) (rest : List Input),
    (s.inputs = [] → step s = .next (microsecond { s with doneValid := false })) ∧
    (s.inputs = .wait n :: rest →
      step s = .next (microsecond^[n] { s with inputs := rest, doneValid := false }) ∧
      ∀ t, step s = .next t → t.now = s.now + BitVec.ofNat 32 n) ∧
    (s.txBusy = false → microsecond s = { s with now := s.now + 1 })

/-- "When several agents are enabled in the same clock period their steps are taken in this fixed order": tick, transmit
agent, edge, host (rule R170). The transmit agent runs once per tick, so in the periods of a microsecond boundary only (rule
R113). A clock period as one input is the model's form (log 5). -/
def Obligations.ClockPeriodOrder : Prop :=
  ∀ (s : State) (boundary : Bool) (lvl : Level) (port : Option PortRequest) (rest : List Input),
    s.inputs = .clock boundary lvl port :: rest →
    ∃ s1 s2 s3 : State,
      s1 = (if boundary then { s with inputs := rest, doneValid := false, now := s.now + 1 }
        else { s with inputs := rest, doneValid := false }) ∧
      s2 = (if boundary ∧ s1.txBusy = true then txStep s1 else s1) ∧
      s3 = (if s2.rxPrev ≠ lvl then edgeEvent lvl s2 else s2) ∧
      step s =
        match port with
        | none => .next s3
        | some p => if s3.txBusy = true then .next s3 else exec (regInstr p.index p.access) s3

/-- "Only aligned 32-bit accesses are defined" (rule R52): a narrower, wider or misaligned access, and one outside the 64-byte
window, which belongs to the platform (rule R54), is refused by name; an aligned one inside the window is an access to the
register at its offset (rules R40, R41). That a refused access ends the run is the model's choice (log 11), and its place in the
inputs too (log 5). -/
def Obligations.BridgeTakesAlignedWords : Prop :=
  (∀ (s : State) (we : Bool) (addr n : Nat) (v : Word) (rest : List Input),
    s.inputs = .bus we addr n v :: rest →
    (n ≠ 4 → step s = .refused .accessWidth) ∧
    (n = 4 → addr % 4 ≠ 0 → step s = .refused .accessMisaligned) ∧
    (n = 4 → addr % 4 = 0 → addr < Config.base ∨ Config.base + 64 ≤ addr → step s = .refused .accessOutsideWindow) ∧
    (∀ index : BitVec 4, n = 4 → addr = Config.base + 4 * index.toNat → s.txBusy = false →
      step s = exec (regInstr index (if we then .write v else .read)) { s with inputs := rest, doneValid := false })) ∧
  ∀ (s : State) (offset : BitVec 6) (a : Access) (rest : List Input),
    s.inputs = .word (.reg offset a) :: rest → offset.toNat % 4 ≠ 0 → step s = .refused .accessMisaligned

/-- "Every value in this table": what reset leaves in every state element of rule R35, for either strap and whatever the
parameters. -/
def Obligations.ResetTable : Prop :=
  ∀ (p : Config.Params) (strap : Bool),
    (State.resetWith p strap).status = .notInitialized ∧ (State.resetWith p strap).response = 0 ∧
    (State.resetWith p strap).responseTimestamp = 0 ∧ (State.resetWith p strap).responseBitIndex = 0 ∧
    (State.resetWith p strap).isSlave = strap ∧ (State.resetWith p strap).responseStatus = .none ∧
    (State.resetWith p strap).now = 0 ∧ (State.resetWith p strap).txdata = 0 ∧ (State.resetWith p strap).txBusy = false ∧
    (State.resetWith p strap).txKind = .request ∧ (State.resetWith p strap).txFrame = 0 ∧ (State.resetWith p strap).txHp = 0 ∧
    (State.resetWith p strap).txCnt = 0 ∧ (State.resetWith p strap).lineOut = .idle ∧ (State.resetWith p strap).lineOe = false ∧
    (State.resetWith p strap).rxPrev = .idle ∧ (State.resetWith p strap).cmdOk = false ∧ (State.resetWith p strap).done = false ∧
    (State.resetWith p strap).doneFrame = 0 ∧ (State.resetWith p strap).irqEn = false ∧ (State.resetWith p strap).codecFrame = 0

/-- The reset pin takes any state, a transmission included, to the reset state of its strap, with no completion event and the
port free again (rule R190); the parameters the engine was built with stay. That a reset pulse is one step, and that `rdata` is 0
and the pulse over after it, are the model's choice (logs 5 and 8). -/
def Obligations.ResetFromAnyState : Prop :=
  ∀ (s : State) (strap : Bool) (rest : List Input), s.inputs = .reset strap :: rest →
    ∃ t, step s = .next t ∧ t = { State.resetWith s.params strap with inputs := rest } ∧ completionOutput t = none ∧
      lineOutPin t = none ∧ t.portReady = true

/-! ### The invariant and the whole machine -/

/-- The invariant of rule R36 holds right after reset, for either strap and for any parameters with a half-period at all; the
default parameters are those of rules R6 and R7, with which a receiver reads what a transmitter sends. -/
def Obligations.InvariantAtReset : Prop :=
  (∀ (p : Config.Params) (strap : Bool), 0 < p.tHalf → (State.resetWith p strap).Inv) ∧
  (∀ strap : Bool, (State.resetAs strap).Inv ∧ (State.resetAs strap).params = Config.defaults) ∧
  Config.defaults.tHalf = 500 ∧ Config.defaults.tBit = 1000 ∧ Config.defaults.nSlots = 34 ∧
  Config.defaults.tFrame = 34000 ∧ Config.defaults.tSample = 750 ∧ Config.defaults.tTimeout = 1000000 ∧
  Config.defaults.tDelay = 100000 ∧ Config.defaults.txPinActiveLevel = false ∧
  Config.defaults.rxPinActiveLevel = true ∧ Config.defaults.reads

/-- Every step keeps the invariant of rule R36; the parameters never change, and the role changes by the reset pin only
(rules R18, R34, R36(g)). -/
def Obligations.StepKeepsInvariant : Prop :=
  ∀ s t : State, s.Inv → step s = .next t →
    t.Inv ∧ t.params = s.params ∧ (t.isSlave = s.isSlave ∨ ∃ strap rest, s.inputs = .reset strap :: rest)

/-- Every operation answers a next state from every state: none is refused by the machine and none faults
(93_implementation_defined.md, after U16). The frame of the operations on the line, the edges, the symbols and the wire frame:
they leave the results, the latches and the host's registers alone (rule R174), and with the transmit agent at rest they leave
the transmit state, the line output and `cmd_ok` alone too. That `rdata` keeps its word between reads is the model's choice
(log 8). -/
def Obligations.EveryOperationAnswers : Prop :=
  ∀ (i : Instr) (s : State), ∃ t, exec i s = .next t ∧ t.inputs = s.inputs ∧ t.params = s.params ∧ t.isSlave = s.isSlave ∧
    (i.isHostAccess = false →
      t.responseStatus = s.responseStatus ∧ t.done = s.done ∧ t.doneFrame = s.doneFrame ∧ t.doneValid = s.doneValid ∧
      t.txdata = s.txdata ∧ t.txFrame = s.txFrame ∧ t.txKind = s.txKind ∧ t.lineOe = s.lineOe ∧ t.irqEn = s.irqEn ∧
      t.codecFrame = s.codecFrame ∧ t.rdata = s.rdata ∧
      (s.txBusy = false → t.txBusy = false ∧ t.txHp = s.txHp ∧ t.txCnt = s.txCnt ∧ t.lineOut = s.lineOut ∧
        t.cmdOk = s.cmdOk))

/-- "No other transition exists" (rule R158): every step of the engine is a sequence of atomic steps of its agents, reset among
them; in each of them, in a state that meets the invariant, `status` stays or moves by a row of the table that is this agent's
under its condition, and where a row applies it is taken; and each leaves a state that meets the invariant. -/
def Obligations.StatusMovesExactly : Prop :=
  (∀ (who : Agent) (s t : State), s.Inv → AgentStep who s t →
    t.Inv ∧ (t.status = s.status ∨ StatusMove who s t.status) ∧ ∀ q, StatusMove who s q → t.status = q) ∧
  ∀ s t : State, s.Inv → step s = .next t →
    Relation.ReflTransGen
      (fun u v => u.Inv ∧ ∃ who, AgentStep who u v ∧ (v.status = u.status ∨ StatusMove who u v.status)) s t

/-- A completion event is emitted by POLL and by nothing else (rule R164): every other operation leaves `done_valid`,
`done_frame` and the Response Status as they are, and only a write to IRQ_STATUS moves `done`. -/
def Obligations.OnlyPollCompletes : Prop :=
  ∀ (i : Instr) (s t : State), exec i s = .next t → ¬ isCommand 2 i →
    t.doneValid = s.doneValid ∧ t.doneFrame = s.doneFrame ∧ t.responseStatus = s.responseStatus ∧
    (t.done = s.done ∨ ∃ v, i = .regIrqStatus (.write v))

/-- An exchange that ends, ends with exactly one completion event, made by the POLL that ends it and carrying `response`; the
only other way out of it is an accepted SEND_RESPONSE, which has none (rules R147, R160). -/
def Obligations.ExchangeEndsWithOneCompletion : Prop :=
  ∀ (i : Instr) (s t : State), s.Inv → s.status.inExchange = true → exec i s = .next t →
    (t.status.inExchange = true → ¬ isCommand 2 i → t.doneValid = s.doneValid) ∧
    (t.status.inExchange = true → isCommand 2 i → t.doneValid = s.doneValid ∧ t.done = s.done) ∧
    (t.status.inExchange = false →
      (isCommand 2 i ∧ (t.status = .ready ∨ t.status = .delay) ∧ t.doneValid = true ∧ t.done = true ∧
        t.doneFrame = s.response ∧ t.responseStatus ≠ .none ∧
        completionOutput t = some (s.response, t.responseStatus)) ∨
      (isCommand 4 i ∧ t.status = .requestSending ∧ t.doneValid = s.doneValid))

/-! ### The codec -/

/-- `parity(f) = popcount(f[31:0]) mod 2`, the count taken over the 32 bit positions; `getMessageType(f) = (f >> 28) AND 7`;
`getDataId(f) = (f >> 16) AND 0xFF` (rules R90, R91, R92). -/
def Obligations.InspectionFunctions : Prop :=
  (∀ f : Word,
    parity f = decide (((List.range 32).filter fun k => f.getLsbD k).length % 2 = 1) ∧
    (getMessageType f).setWidth 32 = (f >>> 28 &&& 7) ∧ (getDataId f).setWidth 32 = (f >>> 16 &&& 0xFF)) ∧
  parity 0 = false ∧ parity 0xFFFFFFFF = false ∧ parity 0x80000000 = true ∧ parity 0xC0191234 = false ∧
  getMessageType 0xC0191234 = 4 ∧ getDataId 0xC0191234 = 0x19

/-- The two validity predicates: even parity and one of two message types; nothing else of the frame is examined
(rules R95, R96). -/
def Obligations.ValidityPredicates : Prop :=
  (∀ f : Word,
    (isValidRequest f = true ↔ parity f = false ∧ (getMessageType f = 0 ∨ getMessageType f = 1)) ∧
    (isValidResponse f = true ↔ parity f = false ∧ (getMessageType f = 4 ∨ getMessageType f = 5))) ∧
  isValidRequest 0 = true ∧ isValidRequest 0x0F000000 = true ∧ isValidRequest 0x80190000 = true ∧
  isValidRequest 0x00190000 = false ∧ isValidResponse 0xC0191234 = true ∧ isValidResponse 0x40191234 = false ∧
  isValidResponse 0xF07B0000 = false

/-- `buildRequest`: WRITE_DATA or READ_DATA, SPARE 0, the id, the payload, even parity, always a valid request (rule R93). -/
def Obligations.BuiltRequest : Prop :=
  (∀ (type : BitVec 3) (id : BitVec 8) (payload : BitVec 16),
    ∃ p : BitVec 1, buildRequest type id payload = frameWord p (if type = 1 then 1 else 0) 0 id payload ∧
      parity (buildRequest type id payload) = false ∧ isValidRequest (buildRequest type id payload) = true) ∧
  buildRequest 0 25 0 = 0x80190000 ∧ buildRequest 1 1 0x3C00 = 0x10013C00 ∧ buildRequest 4 25 0 = 0x80190000

/-- `buildResponse`: the type as given, SPARE 0, the id, the payload, even parity; a valid response exactly for the two ack
types (rule R94). -/
def Obligations.BuiltResponse : Prop :=
  (∀ (type : BitVec 3) (id : BitVec 8) (payload : BitVec 16),
    ∃ p : BitVec 1, buildResponse type id payload = frameWord p type 0 id payload ∧
      parity (buildResponse type id payload) = false ∧
      isValidResponse (buildResponse type id payload) = decide (type = 4 ∨ type = 5) ∧
      isValidRequest (buildResponse type id payload) = decide (type = 0 ∨ type = 1)) ∧
  buildResponse 4 25 0x1234 = 0xC0191234 ∧ buildResponse 5 1 0x3C00 = 0xD0013C00 ∧
  buildResponse 7 0x7B 0 = 0xF07B0000

/-- Flipping any odd number of bits of a frame of even parity, a single one among them, makes `parity` 1, and flipping an even
number of bits leaves it (rule R103(c)). -/
def Obligations.ParityDetectsOddFlips : Prop :=
  ∀ f : Word, parity f = false →
    (∀ k : Nat, k < 32 → parity (f ^^^ (1#32 <<< k)) = true) ∧
    (∀ flips : Word, popcount flips % 2 = 1 → parity (f ^^^ flips) = true) ∧
    (∀ flips : Word, popcount flips % 2 = 0 → parity (f ^^^ flips) = false)

/-- The views of a payload: unsigned, two's complement, high byte and low byte, and the signed value over 256
(rules R97, R98, R99, R100). -/
def Obligations.PayloadViews : Prop :=
  ∀ f : Word,
    (getUInt f).toNat = f.toNat % 65536 ∧
    getInt f = (if f.getLsbD 15 then ((getUInt f).toNat : Int) - 65536 else (getUInt f).toNat) ∧
    (getHB f).toNat = f.toNat / 256 % 256 ∧ (getLB f).toNat = f.toNat % 256 ∧
    (getUInt f).toNat = 256 * (getHB f).toNat + (getLB f).toNat ∧
    toFixedPointFloat (getUInt f) = (getInt f : Rat) / 256

/-- `fromFixedPointFloat`: below 0 gives 0, above 100 gives 0x6400, between them floor(256 t), so bit 15 is never set
(rule R101). -/
def Obligations.ToPayloadClampsAndTruncates : Prop :=
  (∀ t : Rat, t < 0 → fromFixedPointFloat t = 0) ∧
  (∀ t : Rat, 100 < t → fromFixedPointFloat t = 0x6400) ∧
  (∀ t : Rat, 0 ≤ t → t ≤ 100 → ((fromFixedPointFloat t).toNat : Int) = (t * 256).floor) ∧
  (∀ t : Rat, (fromFixedPointFloat t).toNat ≤ 0x6400 ∧ (fromFixedPointFloat t).getLsbD 15 = false)

/-- The fixed-point conversions: within 1/256 one way on [0, 100], exact the other way on 0 to 0x6400 (rule R102). -/
def Obligations.FixedPointRoundTrip : Prop :=
  (∀ t : Rat, temperatureToData t = fromFixedPointFloat t) ∧
  (∀ t : Rat, 0 ≤ t → t ≤ 100 → |toFixedPointFloat (fromFixedPointFloat t) - t| < 1 / 256) ∧
  (∀ p : BitVec 16, p.toNat ≤ 0x6400 → fromFixedPointFloat (toFixedPointFloat p) = p)

/-! ### Frame words -/

/-- Each of the eight frame words is given to the codec: CODEC_FRAME is the word, and what is read is its parity, its
validity as a request (types 0 and 1) and as a response (types 4 and 5) when the parity is even, its type, its id and its
payload. That a frame word as an operation is the codec inspection of rule R79(f) is the model's choice (log 9). -/
def Obligations.FrameWordsInspected : Prop :=
  ∀ (s : State) (p : BitVec 1) (spare : BitVec 4) (id : BitVec 8) (payload : BitVec 16),
    let Inspected := fun (i : Instr) (type : BitVec 3) =>
      ∃ info : Word, exec i s = .next { s with codecFrame := frameWord p type spare id payload, rdata := info } ∧
        info.getLsbD 0 = parity (frameWord p type spare id payload) ∧
        info.getLsbD 1 = (!parity (frameWord p type spare id payload) && decide (type = 0 ∨ type = 1)) ∧
        info.getLsbD 2 = (!parity (frameWord p type spare id payload) && decide (type = 4 ∨ type = 5)) ∧
        info.getLsbD 3 = false ∧ info.extractLsb' 4 3 = type ∧ info.getLsbD 7 = false ∧
        info.extractLsb' 8 8 = id ∧ info.extractLsb' 16 16 = payload
    Inspected (.frameReadData p spare id payload) 0 ∧ Inspected (.frameWriteData p spare id payload) 1 ∧
    Inspected (.frameInvalidData p spare id payload) 2 ∧ Inspected (.frameMsgtypeReserved3 p spare id payload) 3 ∧
    Inspected (.frameReadAck p spare id payload) 4 ∧ Inspected (.frameWriteAck p spare id payload) 5 ∧
    Inspected (.frameDataInvalid p spare id payload) 6 ∧ Inspected (.frameUnknownDataId p spare id payload) 7

/-! ### Registers -/

/-- Reading STATUS returns one snapshot with every field in its place and the reserved bits 0 (rule R44); the codes are the
positions in the two listings (rules R14, R19), so STATUS[3:0] is 1 exactly in READY. -/
def Obligations.StatusSnapshot : Prop :=
  [Status.notInitialized, .ready, .requestSending, .responseWaiting, .responseStartBit, .responseReceiving, .responseReady,
      .responseInvalid, .delay].map Status.code = [0, 1, 2, 3, 4, 5, 6, 7, 8] ∧
  [ResponseStatus.none, .success, .invalid, .timeout].map ResponseStatus.code = [0, 1, 2, 3] ∧
  ∀ s : State, ∃ w : Word, exec (.regStatus .read) s = .next { s with rdata := w } ∧
    w.extractLsb' 0 4 = s.status.code ∧ (w.extractLsb' 0 4 = 1 ↔ s.status = .ready) ∧ w.getLsbD 4 = s.isSlave ∧ w.extractLsb' 5 2 = s.responseStatus.code ∧
    w.getLsbD 7 = s.cmdOk ∧ w.extractLsb' 8 6 = s.responseBitIndex ∧ w.getLsbD 14 = s.txBusy ∧ w.getLsbD 15 = s.done ∧
    w.getLsbD 16 = decide (s.rxPrev = .active) ∧ w.getLsbD 17 = decide (s.lineOut = .active) ∧
    w.getLsbD 18 = s.lineOe ∧ w.extractLsb' 19 13 = 0

/-- CODEC_FRAME holds its word, and CODEC_INFO returns the codec functions of it, field by field; neither touches the session
(rule R48). -/
def Obligations.CodecRegisters : Prop :=
  ∀ (s : State) (v : Word),
    exec (.regCodecFrame (.write v)) s = .next { s with codecFrame := v } ∧
    exec (.regCodecFrame .read) s = .next { s with rdata := s.codecFrame } ∧
    ∃ w : Word, exec (.regCodecInfo .read) s = .next { s with rdata := w } ∧
      w.getLsbD 0 = parity s.codecFrame ∧ w.getLsbD 1 = isValidRequest s.codecFrame ∧
      w.getLsbD 2 = isValidResponse s.codecFrame ∧ w.getLsbD 3 = false ∧
      w.extractLsb' 4 3 = getMessageType s.codecFrame ∧ w.getLsbD 7 = false ∧
      w.extractLsb' 8 8 = getDataId s.codecFrame ∧ w.extractLsb' 16 16 = s.codecFrame.extractLsb' 0 16

/-- TXDATA is written and read whole, whatever the frame (rule R43). -/
def Obligations.TxdataRegister : Prop :=
  ∀ (s : State) (v : Word),
    exec (.regTxdata (.write v)) s = .next { s with txdata := v } ∧
    exec (.regTxdata .read) s = .next { s with rdata := s.txdata }

/-- IRQ_STATUS and IRQ_ENABLE: `done` in bit 0, cleared by writing 1 there; `irq_en` in bit 0; `irq` is both (rule R47). -/
def Obligations.InterruptRegisters : Prop :=
  ∀ (s : State) (v : Word),
    exec (.regIrqStatus .read) s = .next { s with rdata := if s.done then 1 else 0 } ∧
    exec (.regIrqStatus (.write v)) s = .next { s with done := s.done && !v.getLsbD 0 } ∧
    exec (.regIrqEnable .read) s = .next { s with rdata := if s.irqEn then 1 else 0 } ∧
    exec (.regIrqEnable (.write v)) s = .next { s with irqEn := v.getLsbD 0 } ∧
    irq s = (s.done && s.irqEn)

/-- RESPONSE, RESP_TS, NOW and DONE_FRAME return their register; the write-only CMD and the five reserved offsets read 0
(rules R42, R45, R46, R54). -/
def Obligations.ReadOnlyRegisters : Prop :=
  ∀ s : State,
    exec (.regResponse .read) s = .next { s with rdata := s.response } ∧
    exec (.regRespTs .read) s = .next { s with rdata := s.responseTimestamp } ∧
    exec (.regNow .read) s = .next { s with rdata := s.now } ∧
    exec (.regDoneFrame .read) s = .next { s with rdata := s.doneFrame } ∧
    exec (.regCmd .read) s = .next { s with rdata := 0 } ∧
    exec (.regReserved2C .read) s = .next { s with rdata := 0 } ∧
    exec (.regReserved30 .read) s = .next { s with rdata := 0 } ∧
    exec (.regReserved34 .read) s = .next { s with rdata := 0 } ∧
    exec (.regReserved38 .read) s = .next { s with rdata := 0 } ∧
    exec (.regReserved3C .read) s = .next { s with rdata := 0 }

/-- Writes to the read-only registers and to the reserved offsets are ignored (rules R53, R54). -/
def Obligations.IgnoredWrites : Prop :=
  ∀ (s : State) (v : Word),
    exec (.regStatus (.write v)) s = .next s ∧ exec (.regResponse (.write v)) s = .next s ∧
    exec (.regRespTs (.write v)) s = .next s ∧ exec (.regNow (.write v)) s = .next s ∧
    exec (.regDoneFrame (.write v)) s = .next s ∧ exec (.regCodecInfo (.write v)) s = .next s ∧
    exec (.regReserved2C (.write v)) s = .next s ∧ exec (.regReserved30 (.write v)) s = .next s ∧
    exec (.regReserved34 (.write v)) s = .next s ∧ exec (.regReserved38 (.write v)) s = .next s ∧
    exec (.regReserved3C (.write v)) s = .next s

/-- The window as the engine's address space: a read changes no word of it, and a write to a word other than CMD changes only
that word and the words computed from it (STATUS for IRQ_STATUS, CODEC_INFO for CODEC_FRAME) (rules R41, R53). That `rdata` keeps its
word over a write is the model's choice (log 8). -/
def Obligations.WindowFrame : Prop :=
  ∀ (index : BitVec 4) (s : State),
    (∃ t, exec (regInstr index .read) s = .next t ∧ t.rdata = regValue index s ∧ sameRegisters [] s t) ∧
    (∀ v : Word, index ≠ 0 → ∃ t, exec (regInstr index (.write v)) s = .next t ∧ t.rdata = s.rdata ∧
      sameRegisters
        (if index = 2 then [2] else if index = 7 then [1, 7] else if index = 8 then [8]
          else if index = 9 then [9, 10] else []) s t)

/-- A write to CMD executes the command its word encodes, which completes and leaves alone what no command writes (rules R42,
R140). That `rdata` keeps its word over a write is the model's choice (log 8). -/
def Obligations.CmdWriteRunsCommand : Prop :=
  ∀ (w : Word) (s : State),
    exec (.regCmd (.write w)) s = exec (decodeCmd w) s ∧
    ∃ t, exec (.regCmd (.write w)) s = .next t ∧ t.now = s.now ∧ t.codecFrame = s.codecFrame ∧ t.rdata = s.rdata ∧
      t.irqEn = s.irqEn ∧ t.rxPrev = s.rxPrev ∧ t.responseTimestamp = s.responseTimestamp ∧
      t.responseBitIndex = s.responseBitIndex

/-! ### Commands -/

/-- NOP only sets `cmd_ok`, whatever its ignored bits (rule R157); the nine reserved opcodes are refused, `cmd_ok <- 0` and
nothing else, the port as before (rule R73). -/
def Obligations.NopAndReservedOpcodes : Prop :=
  ∀ (ign : BitVec 28) (s : State),
    let Refused := fun (i : Instr) =>
      exec i s = .next { s with cmdOk := false } ∧ ({ s with cmdOk := false } : State).portReady = s.portReady
    exec (.nop ign) s = .next { s with cmdOk := true } ∧
    Refused (.cmdReserved7 ign) ∧ Refused (.cmdReserved8 ign) ∧ Refused (.cmdReserved9 ign) ∧
    Refused (.cmdReservedA ign) ∧ Refused (.cmdReservedB ign) ∧ Refused (.cmdReservedC ign) ∧
    Refused (.cmdReservedD ign) ∧ Refused (.cmdReservedE ign) ∧ Refused (.cmdReservedF ign)

/-- BEGIN brings up the line once; later it is refused (rule R142). -/
def Obligations.BeginOnce : Prop :=
  ∀ (ign : BitVec 28) (s : State),
    (s.status = .notInitialized →
      exec (.beginLink ign) s = .next { s with lineOe := true, lineOut := .idle, status := .ready, cmdOk := true }) ∧
    (s.status ≠ .notInitialized → exec (.beginLink ign) s = .next { s with cmdOk := false })

/-- SEND_REQUEST outside READY and SEND_RESPONSE before BEGIN: refused, no other change (rules R143, R146). -/
def Obligations.SendsRefused : Prop :=
  ∀ (ign : BitVec 28) (s : State),
    (s.status ≠ .ready → exec (.sendRequest ign) s = .next { s with cmdOk := false }) ∧
    (s.status = .notInitialized → exec (.sendResponse ign) s = .next { s with cmdOk := false })

/-- SEND_REQUEST in READY: the acceptance step, and `T_FRAME` (34,000 µs) later the armed receiver and the host released, with
the rest untouched (rule R144). -/
def Obligations.RequestSentThenArmed : Prop :=
  Config.defaults.tFrame = 34000 ∧ ∀ (ign : BitVec 28) (s : State), s.params.fits → s.status = .ready →
    ∃ t, exec (.sendRequest ign) s = .next t ∧
      t = { s with
            status := .requestSending
            response := 0
            txFrame := s.txdata
            txKind := .request
            txHp := 0
            txCnt := 0
            txBusy := true
            lineOut := .active } ∧
      t.portReady = false ∧ (microsecond^[s.params.tFrame] t).portReady = true ∧
      microsecond^[s.params.tFrame] t =
        { t with
          now := s.now + BitVec.ofNat 32 s.params.tFrame
          status := .responseWaiting
          responseTimestamp := s.now + BitVec.ofNat 32 s.params.tFrame
          cmdOk := true
          txBusy := false
          txHp := 0
          txCnt := 0
          lineOut := .idle }

/-- SEND_RESPONSE in each of the seven other statuses a command can meet, in either role: accepted, and READY `T_FRAME`
(34,000 µs) later with `responseTimestamp` as it was (rule R147). -/
def Obligations.ResponseSentThenReady : Prop :=
  Config.defaults.tFrame = 34000 ∧
  ∀ (ign : BitVec 28) (s : State), s.params.fits → s.status ≠ .notInitialized → s.status ≠ .requestSending →
    ∃ t, exec (.sendResponse ign) s = .next t ∧
      t = { s with
            status := .requestSending
            response := 0
            txFrame := s.txdata
            txKind := .response
            txHp := 0
            txCnt := 0
            txBusy := true
            lineOut := .active } ∧
      t.portReady = false ∧ (microsecond^[s.params.tFrame] t).portReady = true ∧
      microsecond^[s.params.tFrame] t =
        { t with
          now := s.now + BitVec.ofNat 32 s.params.tFrame
          status := .ready
          cmdOk := true
          txBusy := false
          txHp := 0
          txCnt := 0
          lineOut := .idle }

/-- POLL's timeout: strictly more than `T_TIMEOUT` (1,000,000 µs) of silence in a waiting or receiving status; straight to
READY, with the completion event on the outputs while `done_valid` is 1; after that a further POLL does nothing (rule R150). -/
def Obligations.PollTimeout : Prop :=
  Config.defaults.tTimeout = 1000000 ∧
  ∀ (ign : BitVec 28) (s : State),
    s.status = .responseWaiting ∨ s.status = .responseStartBit ∨ s.status = .responseReceiving →
    (s.params.tTimeout < (s.now - s.responseTimestamp).toNat →
      ∃ t, exec (.poll ign) s = .next t ∧
        t = { s with
              status := .ready
              responseStatus := .timeout
              doneFrame := s.response
              done := true
              doneValid := true
              cmdOk := true } ∧
        completionOutput t = some (s.response, .timeout) ∧ completionOutput { t with doneValid := false } = none ∧
        exec (.poll ign) { t with doneValid := false } = .next { t with doneValid := false }) ∧
    ((s.now - s.responseTimestamp).toNat ≤ s.params.tTimeout → exec (.poll ign) s = .next { s with cmdOk := true })

/-- POLL of a complete frame: SUCCESS or INVALID by the role's predicate, to DELAY, with the completion event on the outputs,
whatever its age (rules R74, R151). -/
def Obligations.PollCompleteFrame : Prop :=
  ∀ (ign : BitVec 28) (s : State), s.status = .responseReady →
    ∃ t, exec (.poll ign) s = .next t ∧ completionOutput t = some (s.response, t.responseStatus) ∧
      t =
        { s with
          status := .delay
          responseStatus :=
            if parity s.response = false ∧
                (if s.isSlave then getMessageType s.response = 0 ∨ getMessageType s.response = 1
                  else getMessageType s.response = 4 ∨ getMessageType s.response = 5)
              then .success else .invalid
          doneFrame := s.response
          done := true
          doneValid := true
          cmdOk := true }

/-- POLL of a malformed waveform: INVALID, to DELAY, with the completion event on the outputs (rule R152). -/
def Obligations.PollMalformed : Prop :=
  ∀ (ign : BitVec 28) (s : State), s.status = .responseInvalid →
    ∃ t, exec (.poll ign) s = .next t ∧ completionOutput t = some (s.response, .invalid) ∧
      t =
        { s with
          status := .delay
          responseStatus := .invalid
          doneFrame := s.response
          done := true
          doneValid := true
          cmdOk := true }

/-- POLL in DELAY: READY after strictly more than `T_DELAY` (100,000 µs) since the last event, and no completion event
(rule R153). -/
def Obligations.PollEndsDelay : Prop :=
  Config.defaults.tDelay = 100000 ∧
  ∀ (ign : BitVec 28) (s : State), s.status = .delay →
    exec (.poll ign) s = .next
      (if s.params.tDelay < (s.now - s.responseTimestamp).toNat then { s with status := .ready, cmdOk := true }
        else { s with cmdOk := true })

/-- POLL in NOT_INITIALIZED, READY and REQUEST_SENDING only sets `cmd_ok` (rule R148). -/
def Obligations.PollElsewhere : Prop :=
  ∀ (ign : BitVec 28) (s : State),
    s.status = .notInitialized ∨ s.status = .ready ∨ s.status = .requestSending →
    exec (.poll ign) s = .next { s with cmdOk := true }

/-- The builders put the built frame into `txdata`, in every status, and touch nothing else (rules R155, R156). -/
def Obligations.BuildCommands : Prop :=
  (∀ (rsv : BitVec 1) (type : BitVec 3) (id : BitVec 8) (data : BitVec 16) (s : State),
    exec (.buildRequest rsv type id data) s = .next { s with txdata := buildRequest type id data, cmdOk := true } ∧
    exec (.buildResponse rsv type id data) s = .next { s with txdata := buildResponse type id data, cmdOk := true }) ∧
  (∀ s : State,
    exec (.regCmd (.write 0x50190000)) s = .next { s with txdata := 0x80190000, cmdOk := true } ∧
    exec (.regCmd (.write 0x51013C00)) s = .next { s with txdata := 0x10013C00, cmdOk := true } ∧
    exec (.regCmd (.write 0x64191234)) s = .next { s with txdata := 0xC0191234, cmdOk := true } ∧
    exec (.regCmd (.write 0x65013C00)) s = .next { s with txdata := 0xD0013C00, cmdOk := true })

/-- Which command words are refused, and that a refused command changes nothing but `cmd_ok`; every other command but a send
sets it (rule R141). A send that is not refused leaves it as it is and sets it when its frame has been sent, `T_FRAME` later
(rules R117, R144, R147). -/
def Obligations.RefusalsChangeNothing : Prop :=
  ∀ (w : Word) (s : State),
    let refused := (opcodeOf w = 3 ∧ s.status ≠ .ready) ∨ (opcodeOf w = 4 ∧ s.status = .notInitialized) ∨
      (opcodeOf w = 1 ∧ s.status ≠ .notInitialized) ∨ 7 ≤ (opcodeOf w).toNat
    (refused → exec (.regCmd (.write w)) s = .next { s with cmdOk := false }) ∧
    (¬ refused → opcodeOf w ≠ 3 → opcodeOf w ≠ 4 → ∃ t, exec (.regCmd (.write w)) s = .next t ∧ t.cmdOk = true) ∧
    (¬ refused → opcodeOf w = 3 ∨ opcodeOf w = 4 → s.status ≠ .requestSending → s.params.fits →
      ∃ t, exec (.regCmd (.write w)) s = .next t ∧ t.cmdOk = s.cmdOk ∧ (microsecond^[s.params.tFrame] t).cmdOk = true)

/-! ### Transmission -/

/-- The level function of a frame in its 34 slots (rules R63, R112): for every frame the first half-periods and the last two are
fixed, slot `k` carries frame bit `32 - k`, and its two halves have opposite levels. -/
def Obligations.LevelFunction : Prop :=
  ∀ f : Word,
    hpLevel f 0 = .active ∧ hpLevel f 1 = .idle ∧ hpLevel f 66 = .active ∧ hpLevel f 67 = .idle ∧
    ∀ k : Nat, 1 ≤ k → k ≤ 32 →
      hpLevel f (2 * k) = (if f.getLsbD (32 - k) then .active else .idle) ∧
      hpLevel f (2 * k + 1) = (if f.getLsbD (32 - k) then .idle else .active)

/-- The transmit agent in each microsecond: at rest nothing but the tick; in a frame the step inside a half-period, at the end
of one, and the final step of a frame of either kind (rules R113, R117). That an engine built with another `N_SLOTS` than 34
drives its slots by R63 is the model's choice (log 3). -/
def Obligations.TransmitAgentStep : Prop :=
  Config.defaults.tHalf = 500 ∧ Config.defaults.lastHp = 67 ∧
  ∀ s : State, (s.txBusy = false → microsecond s = { s with now := s.now + 1 }) ∧ (s.txBusy = true →
    (s.txCnt.toNat + 1 < s.params.tHalf → microsecond s = { s with now := s.now + 1, txCnt := s.txCnt + 1 }) ∧
    (s.params.tHalf ≤ s.txCnt.toNat + 1 → s.txHp.toNat < s.params.lastHp →
      microsecond s =
        { s with
          now := s.now + 1
          txCnt := 0
          txHp := s.txHp + 1
          lineOut := hpLevel s.txFrame (s.txHp.toNat + 1) }) ∧
    (s.params.tHalf ≤ s.txCnt.toNat + 1 → s.params.lastHp ≤ s.txHp.toNat →
      microsecond s =
        { s with
          now := s.now + 1
          lineOut := .idle
          txBusy := false
          txHp := 0
          txCnt := 0
          status := match s.txKind with | .request => .responseWaiting | .response => .ready
          responseTimestamp := match s.txKind with | .request => s.now + 1 | .response => s.responseTimestamp
          cmdOk := true }))

/-- The closed form of the waveform of every transmission, a request's or a response's (rule R114): `T_HALF * k + j` microseconds
after acceptance the agent is `j` microseconds into half-period `k` and drives its level, still sending. A SEND_RESPONSE in
REQUEST_SENDING, which no host can make, starts its frame too (log 12), and what an engine built with another `N_SLOTS` than 34
sends is what R63 gives the slots it has (log 3): the model's choices. -/
def Obligations.WaveformClosedForm : Prop :=
  ∀ (i : Instr) (ign : BitVec 28) (s t : State),
    (i = .sendRequest ign ∧ s.status = .ready) ∨ (i = .sendResponse ign ∧ s.status ≠ .notInitialized) →
    s.params.fits → exec i s = .next t →
    t.txBusy = true ∧ t.status = .requestSending ∧ t.txFrame = s.txdata ∧
    ∀ k j : Nat, k ≤ s.params.lastHp → j < s.params.tHalf →
      microsecond^[s.params.tHalf * k + j] t =
        { t with
          now := s.now + BitVec.ofNat 32 (s.params.tHalf * k + j)
          txHp := BitVec.ofNat 7 k
          txCnt := BitVec.ofNat 9 j
          lineOut := hpLevel s.txdata k }

/-- The output pin is driven exactly when `line_oe` is 1, at `TX_PIN_ACTIVE_LEVEL` (low) for ACTIVE and its complement for IDLE,
and a reachable engine that is sending drives it (rule R118). -/
def Obligations.OutputPin : Prop :=
  Config.defaults.txPinActiveLevel = false ∧
  ∀ s : State,
    (s.lineOe = false → lineOutPin s = none) ∧
    (s.lineOe = true →
      lineOutPin s =
        some (match s.lineOut with | .active => s.params.txPinActiveLevel | .idle => !s.params.txPinActiveLevel)) ∧
    (s.Inv → s.txBusy = true → s.lineOe = true)

/-! ### Reception

An edge operation is the event itself: to the level sensed before, too, it runs the handler, which does not rely on alternating
levels (rule R125, log 13). -/

/-- RESPONSE_WAITING: the first edge is taken whenever it comes (rule R126). -/
def Obligations.EdgeWhileWaiting : Prop :=
  ∀ s : State, s.status = .responseWaiting →
    exec .edgeActive s = .next { s with rxPrev := .active, status := .responseStartBit, responseTimestamp := s.now } ∧
    exec .edgeIdle s = .next { s with rxPrev := .idle, status := .responseInvalid, responseTimestamp := s.now }

/-- RESPONSE_START_BIT: an edge to IDLE strictly within `T_SAMPLE` (750 µs) starts the data bits; any other edge is malformed
(rules R127, R128). -/
def Obligations.EdgeInStartBit : Prop :=
  Config.defaults.tSample = 750 ∧
  ∀ (s : State) (lvl : Level), s.status = .responseStartBit →
    ((s.now - s.responseTimestamp).toNat < s.params.tSample ∧ lvl = .idle →
      exec (edgeInstr lvl) s = .next
        { s with rxPrev := lvl, status := .responseReceiving, responseBitIndex := 0, responseTimestamp := s.now }) ∧
    (¬ ((s.now - s.responseTimestamp).toNat < s.params.tSample ∧ lvl = .idle) →
      exec (edgeInstr lvl) s = .next
        { s with rxPrev := lvl, status := .responseInvalid, responseTimestamp := s.now })

/-- RESPONSE_RECEIVING: an edge strictly more than `T_SAMPLE` (750 µs) after the last sample shifts in the inverted level while
fewer than 32 bits are in (rule R129), and ends the frame after that whatever its level (rule R130). -/
def Obligations.EdgeWhileReceiving : Prop :=
  Config.defaults.tSample = 750 ∧
  ∀ (s : State) (lvl : Level), s.status = .responseReceiving → s.params.tSample < (s.now - s.responseTimestamp).toNat →
    (s.responseBitIndex.toNat < 32 →
      exec (edgeInstr lvl) s = .next
        { s with
          rxPrev := lvl
          response := s.response <<< 1 ||| (if lvl = .idle then 1 else 0)
          responseBitIndex := s.responseBitIndex + 1
          responseTimestamp := s.now }) ∧
    (s.responseBitIndex = 32 →
      exec (edgeInstr lvl) s = .next
        { s with rxPrev := lvl, status := .responseReady, responseTimestamp := s.now })

/-- RESPONSE_RECEIVING: an edge at most `T_SAMPLE` (750 µs) after the last sample changes nothing, not even the timestamp
(rule R133). -/
def Obligations.EarlyEdgeIgnored : Prop :=
  ∀ (s : State) (lvl : Level), s.status = .responseReceiving → (s.now - s.responseTimestamp).toNat ≤ s.params.tSample →
    exec (edgeInstr lvl) s = .next { s with rxPrev := lvl }

/-- READY: a master ignores every edge; a slave starts a reception on an edge to ACTIVE, through RESPONSE_WAITING in the same
step (rule R131). -/
def Obligations.EdgeWhileReady : Prop :=
  ∀ (s : State) (lvl : Level), s.status = .ready →
    (s.isSlave = true → lvl = .active →
      exec (edgeInstr lvl) s = .next
        { s with rxPrev := lvl, status := .responseStartBit, responseTimestamp := s.now }) ∧
    (¬ (s.isSlave = true ∧ lvl = .active) → exec (edgeInstr lvl) s = .next { s with rxPrev := lvl })

/-- The five statuses with no row: an edge changes nothing but the detector's level (rule R132). -/
def Obligations.EdgeWithoutRow : Prop :=
  ∀ (s : State) (lvl : Level),
    s.status = .notInitialized ∨ s.status = .requestSending ∨ s.status = .responseReady ∨
      s.status = .responseInvalid ∨ s.status = .delay →
    exec (edgeInstr lvl) s = .next { s with rxPrev := lvl }

/-- One slot, `T_HALF` after the last sample, shifts in its bit at its middle and leaves the same situation for the next slot;
a slot-boundary edge, if there is one, is ignored (rules R60, R135). -/
def Obligations.SlotShiftsInOneBit : Prop :=
  ∀ (s : State) (b : Bool), s.params.reads → s.status = .responseReceiving → s.txBusy = false →
    s.responseBitIndex.toNat < 32 → (s.now - s.responseTimestamp).toNat = s.params.tHalf →
    exec (symbolInstr b) s = .next
      { s with
        rxPrev := if b then .idle else .active
        response := s.response <<< 1 ||| (if b then 1 else 0)
        responseBitIndex := s.responseBitIndex + 1
        responseTimestamp := s.now + BitVec.ofNat 32 s.params.tHalf
        now := s.now + BitVec.ofNat 32 s.params.tBit }

/-- For every 32-bit frame: a receiver that waits for one, or a slave in READY, on an idle line, has read exactly that frame
67 half-periods (33,500 µs) after its first edge, whatever the stop slot carries (rules R135, R198). -/
def Obligations.ReceiverReadsEveryFrame : Prop :=
  67 * Config.defaults.tHalf = 33500 ∧
  ∀ (f : Word) (stop : Bool) (s : State), s.params.reads →
    s.status = .responseWaiting ∨ (s.status = .ready ∧ s.isSlave = true) → s.txBusy = false → s.rxPrev = .idle →
    exec (.wireFrame true f stop) s = .next
      { s with
        status := .responseReady
        response := f
        responseBitIndex := 32
        responseTimestamp := s.now + BitVec.ofNat 32 (67 * s.params.tHalf)
        rxPrev := if stop then .idle else .active
        now := s.now + BitVec.ofNat 32 s.params.tFrame }

/-! ### Host software and two engines -/

/-- The blocking `sendRequest`, with any activity of the line before the send, during the time it holds the host, before each
POLL and before each read: outside READY it returns 0 and nothing is sent; in READY the frame is sent, the exchange is under way
when STATUS is read, and the engine is polled until STATUS is READY; with a silent line more than `T_TIMEOUT` gives 0 and
TIMEOUT; and what is returned is RESPONSE if the exchange succeeded and 0 if not, the engine READY again, unless a slave meets a
new request between the last two reads (rules R79(e), R154). A slave may also leave READY before the send, so its send is stated
for a line that is silent there. That the line is silent where the lists given end is the model's form (log 14). -/
def Obligations.BlockingSendRequest : Prop :=
  (∀ (f : Word) (line : LineScript) (s : State), s.txBusy = false →
    (s.status ≠ .ready →
      ∃ t, sendRequestBlocking f line s = some (0, t) ∧ t.txBusy = false ∧ t.lineOut = s.lineOut ∧ t.done = s.done ∧
        t.txFrame = s.txFrame ∧ t.cmdOk = false) ∧
    (s.status = .ready → s.isSlave = false ∨ line.setup = [] → s.params.fits →
      ∃ armed : State, armed.status.inExchange = true ∧ armed.txFrame = f ∧ armed.txBusy = false ∧ armed.cmdOk = true ∧
        sendRequestBlocking f line s = pollUntilReady line.rounds line.last armed)) ∧
  (∀ (f : Word) (s : State) (n : Nat), s.txBusy = false → s.status = .ready → s.params.fits → s.params.tTimeout < n →
    n < 2 ^ 32 →
    ∃ t, sendRequestBlocking f ⟨[], [], [⟨[.pass n], []⟩], []⟩ s = some (0, t) ∧ t.status = .ready ∧
      t.responseStatus = .timeout) ∧
  ∀ (rounds : List Round) (last : List LineEvent) (s : State) (w : Word) (t : State), s.txBusy = false →
    pollUntilReady rounds last s = some (w, t) →
    (w = if t.responseStatus = .success then t.response else 0) ∧
    (t.responseStatus ≠ .success ∨ s.isSlave = false ∨ last = [] → t.status = .ready)

/-- Two engines back to back, built alike: both legs of an exchange (rule R177, program P5). The frame a master sends is the
frame the slave has received when the master's transmission ends, and the master is then armed; the frame the other then sends
with SEND_RESPONSE is the frame an armed engine has received when that transmission ends, and the sender is READY. -/
def Obligations.LinkDeliversBothLegs : Prop :=
  ∀ l : Link,
    l.left.params = l.right.params → l.left.params.reads →
    l.left.txBusy = false → l.left.lineOut = .idle → l.left.lineOe = true → l.left.rxPrev = .idle →
    l.right.txBusy = false → l.right.lineOut = .idle → l.right.lineOe = true → l.right.rxPrev = .idle →
    (l.left.status = .ready → l.left.isSlave = false → l.right.status = .ready → l.right.isSlave = true →
      let m := Link.elapse l.left.params.tFrame (l.onLeft cmdSendRequest)
      m.left.status = .responseWaiting ∧
      m.left.responseTimestamp = l.left.now + BitVec.ofNat 32 l.left.params.tFrame ∧ m.left.response = 0 ∧
      m.right.status = .responseReady ∧ m.right.response = l.left.txdata ∧ m.right.responseBitIndex = 32 ∧
      m.right.responseTimestamp = l.right.now + BitVec.ofNat 32 (67 * l.left.params.tHalf)) ∧
    (l.left.status = .responseWaiting → l.right.status ≠ .notInitialized → l.right.status ≠ .requestSending →
      let m := Link.elapse l.left.params.tFrame (l.onRight cmdSendResponse)
      m.right.status = .ready ∧ m.right.responseTimestamp = l.right.responseTimestamp ∧ m.right.response = 0 ∧
      m.left.status = .responseReady ∧ m.left.response = l.right.txdata ∧ m.left.responseBitIndex = 32 ∧
      m.left.responseTimestamp = l.left.now + BitVec.ofNat 32 (67 * l.left.params.tHalf))
end

