-- ==== Sys2Proof/Tests/Slice0.lean ====
section
/-! SUPPORT. The model's own tests. Expected values come from the spec: the layouts of 30_encoding.md written out bit by bit,
and the vectors V1 to V3, T1 to T5, X1, Y1 and Y3 of 95_test_vectors.md. The last part shows, for each obligation with
hypotheses, a concrete state and operands that meet them. -/

open Sys2Proof Sys2Proof.Machine

namespace Sys2Proof.Tests

/-! ### Helpers -/

/-- One field of the state an outcome leaves. -/
def left {α : Type} (f : State → α) : Result → Option α
  | .next t => some (f t)
  | .fault _ | .refused _ => none

/-- The named stop of an outcome. -/
def stop : Result → Option Refusal
  | .next _ | .fault _ => none
  | .refused r => some r

/-- A master after BEGIN. -/
def ready : State := { State.resetAs false with status := .ready, lineOe := true, cmdOk := true }

/-- A slave after BEGIN. -/
def slave : State := { State.resetAs true with status := .ready, lineOe := true, cmdOk := true }

/-- An engine in a status, at a time, with its last event at another. -/
def at_ (st : Status) (now ts : Word) : State := { ready with status := st, now := now, responseTimestamp := ts }

/-- A frame of an engine that sends, at a half-period and a count. -/
def sending (hp : BitVec 7) (cnt : BitVec 9) : State :=
  { ready with
    status := .requestSending
    txBusy := true
    txFrame := 0x80190000
    txHp := hp
    txCnt := cnt
    lineOut := hpLevel 0x80190000 hp.toNat }

/-- `s` with the inputs given. -/
def given (s : State) (is : List Input) : State := { s with inputs := is }

/-! ### Well-formedness (rule R62) -/

theorem test_wf_start_slot_zero : (Instr.wireFrame false 0x80190000 true).wf = false := by decide
theorem test_wf_stop_slot_zero : (Instr.wireFrame true 0x80190000 false).wf = false := by decide
theorem test_wf_both_one : (Instr.wireFrame true 0x80190000 true).wf = true := by decide

/-! ### Decoding: the sixteen command opcodes (rules R70, R72, R73) -/

theorem test_decode_commands :
    decodeTableWord 32 0b00000000000000000000000000000101 = some (.nop 5) ∧
    decodeTableWord 32 0b00010000000000000000000000000000 = some (.beginLink 0) ∧
    decodeTableWord 32 0b00100000000000000000000000000000 = some (.poll 0) ∧
    decodeTableWord 32 0b00110000000000000000000000000000 = some (.sendRequest 0) ∧
    decodeTableWord 32 0b01001000000000000000000000000001 = some (.sendResponse 0x8000001) ∧
    decodeTableWord 32 0b01010001000000010011110000000000 = some (.buildRequest 0 1 0x01 0x3C00) ∧
    decodeTableWord 32 0b01101100000110010001001000110100 = some (.buildResponse 1 4 0x19 0x1234) := by decide

theorem test_decode_reserved_commands :
    decodeTableWord 32 0x70000001 = some (.cmdReserved7 1) ∧ decodeTableWord 32 0x80000002 = some (.cmdReserved8 2) ∧
    decodeTableWord 32 0x90000000 = some (.cmdReserved9 0) ∧ decodeTableWord 32 0xA0000000 = some (.cmdReservedA 0) ∧
    decodeTableWord 32 0xB0000000 = some (.cmdReservedB 0) ∧ decodeTableWord 32 0xC0191234 = some (.cmdReservedC 0x191234) ∧
    decodeTableWord 32 0xD0000000 = some (.cmdReservedD 0) ∧ decodeTableWord 32 0xE0000000 = some (.cmdReservedE 0) ∧
    decodeTableWord 32 0xFFFFFFFF = some (.cmdReservedF 0xFFFFFFF) := by decide

/-! ### Decoding: the eight frame words (rules R65, R66), the byte with the parity bit last -/

theorem test_decode_frames :
    decode .frame [0x00, 0x00, 0x19, 0b10000000] = .ok (.frameReadData 1 0 0x19 0) ∧
    decode .frame [0x00, 0x3C, 0x01, 0b00010000] = .ok (.frameWriteData 0 0 0x01 0x3C00) ∧
    decode .frame [0xCD, 0xAB, 0x05, 0b10100000] = .ok (.frameInvalidData 1 0 0x05 0xABCD) ∧
    decode .frame [0x00, 0x00, 0x00, 0b00110000] = .ok (.frameMsgtypeReserved3 0 0 0 0) ∧
    decode .frame [0x34, 0x12, 0x19, 0b01000001] = .ok (.frameReadAck 0 1 0x19 0x1234) ∧
    decode .frame [0xFF, 0xFF, 0xFF, 0b01010000] = .ok (.frameWriteAck 0 0 0xFF 0xFFFF) ∧
    decode .frame [0x00, 0x00, 0x19, 0b11100000] = .ok (.frameDataInvalid 1 0 0x19 0) ∧
    decode .frame [0x00, 0x00, 0x7B, 0b11110000] = .ok (.frameUnknownDataId 1 0 0x7B 0) := by decide

/-! ### Decoding: the wire (rules R60, R62), the edges (rule R125), the sixteen registers (rule R41) -/

theorem test_decode_wire :
    decodeTableWord 40 0b1100000000001100100000000000000001 = some (.wireFrame true 0x80190000 true) ∧
    decode .symbol [0b10] = .ok .bit1 ∧ decode .symbol [0b01] = .ok .bit0 ∧
    decode .event [1] = .ok .edgeActive ∧ decode .event [0] = .ok .edgeIdle := by decide

theorem test_decode_registers :
    decodeTableWord 8 0x00 = some (.regCmd .read) ∧ decodeTableWord 8 0x04 = some (.regStatus .read) ∧
    decodeTableWord 8 0x08 = some (.regTxdata .read) ∧ decodeTableWord 8 0x0C = some (.regResponse .read) ∧
    decodeTableWord 8 0x10 = some (.regRespTs .read) ∧ decodeTableWord 8 0x14 = some (.regNow .read) ∧
    decodeTableWord 8 0x18 = some (.regDoneFrame .read) ∧ decodeTableWord 8 0x1C = some (.regIrqStatus .read) ∧
    decodeTableWord 8 0x20 = some (.regIrqEnable .read) ∧ decodeTableWord 8 0x24 = some (.regCodecFrame .read) ∧
    decodeTableWord 8 0x28 = some (.regCodecInfo .read) ∧ decodeTableWord 8 0x2C = some (.regReserved2C .read) ∧
    decodeTableWord 8 0x30 = some (.regReserved30 .read) ∧ decodeTableWord 8 0x34 = some (.regReserved34 .read) ∧
    decodeTableWord 8 0x38 = some (.regReserved38 .read) ∧ decodeTableWord 8 0x3C = some (.regReserved3C .read) ∧
    decode .reg [0x00, 1, 0x00, 0x00, 0x00, 0x20] = .ok (.regCmd (.write 0x20000000)) := by decide

theorem test_decode_rejects :
    decode .cmd [0, 0, 0] = .error .wrongLength ∧
    decode .wire [0x01, 0x00, 0x32, 0x00, 0b00000111] = .error .paddingSet ∧
    decode .wire [0x01, 0x00, 0x32, 0x00, 0b00000001] = .error (.misfit (.startSlotNotOne 0x80190000 true)) ∧
    decode .wire [0x00, 0x00, 0x32, 0x00, 0b00000011] = .error (.misfit (.stopSlotNotOne 0x80190000)) ∧
    decode .symbol [0b11] = .error (.misfit (.flatSymbol .active)) ∧
    decode .symbol [0b00] = .error (.misfit (.flatSymbol .idle)) ∧ decode .event [2] = .error .paddingSet ∧
    decode .reg [0x06, 0, 0, 0, 0, 0] = .error (.misfit .registerMisaligned) ∧
    decode .reg [0x40, 0, 0, 0, 0, 0] = .error .registerOutsideWindow ∧
    decode .reg [0x04, 2, 0, 0, 0, 0] = .error .badDirection := by decide

/-! ### The codec (vectors V1, V2, V3, S3, S4) -/

theorem test_build_request :
    buildRequest 1 0xFF 0xFFFF = 0x90FFFFFF ∧ buildRequest 7 25 0 = 0x80190000 ∧ buildRequest 1 0x0E 0x6400 = 0x900E6400 := by
  decide

theorem test_build_response :
    buildResponse 5 0xFF 0xFFFF = 0x50FFFFFF ∧ buildResponse 3 0 0 = 0x30000000 ∧ buildResponse 2 5 0xABCD = 0xA005ABCD := by
  decide

theorem test_parity_flips :
    parity 0xC0191234 = false ∧ parity 0xC1191234 = true ∧ parity 0x40191234 = true ∧ parity 0xC0191235 = true ∧
    parity 0x41191234 = false := by decide

theorem test_codec_info_words :
    codecInfo 0x50013C00 = 0x3C000151 ∧ codecInfo 0xB0000000 = 0x00000031 ∧ codecInfo 0x0F000000 = 0x00000002 ∧
    codecInfo 0xFFFFFFFF = 0xFFFFFF70 := by decide

theorem test_signed_payload : getInt 0x0000FF80 = -128 ∧ getInt 0x00008000 = -32768 ∧ getInt 0x00007FFF = 32767 := by decide

theorem test_to_fixed_point :
    toFixedPointFloat 0x1234 = mkRat 4660 256 ∧ toFixedPointFloat 0xFF80 = mkRat (-1) 2 ∧ toFixedPointFloat 0x6400 = 100 := by
  decide +kernel

theorem test_from_fixed_point :
    fromFixedPointFloat (-5) = 0 ∧ fromFixedPointFloat (mkRat 217 10) = 0x15B3 ∧ fromFixedPointFloat (mkRat 99999 1000) = 0x63FF ∧
    fromFixedPointFloat 150 = 0x6400 := by decide +kernel

theorem test_infinities : fromFloatInput .posInfinity = 0x6400 ∧ fromFloatInput .negInfinity = 0 := by decide +kernel

/-! ### Commands (vectors Y1, Y2) -/

theorem test_nop_ignores_low_bits : exec (.nop 0xFFFFFFF) (State.resetAs false) = .next { State.resetAs false with cmdOk := true } :=
  rfl

theorem test_begin : left statusWord (exec (.beginLink 0) (State.resetAs true)) = some 0x00040091 := by decide

theorem test_begin_again : left statusWord (exec (.beginLink 0) ready) = some 0x00040001 := by decide

theorem test_poll_timeout_corner :
    left State.status (exec (.poll 0) (at_ .responseWaiting 1035000 35000)) = some .responseWaiting ∧
    left statusWord (exec (.poll 0) (at_ .responseWaiting 1035001 35000)) = some 0x000480E1 := by decide

theorem test_poll_slave_rejects_a_response :
    left completionOutput (exec (.poll 0) { slave with status := .responseReady, response := 0xC0191234 }) =
      some (some (0xC0191234, .invalid)) ∧
    left completionOutput (exec (.poll 0) { slave with status := .responseReady, response := 0 }) = some (some (0, .success)) := by
  decide

theorem test_send_request_accepted :
    left statusWord (exec (.sendRequest 0) { ready with txdata := 0x80190000 }) = some 0x00064082 := by decide

theorem test_send_request_refused : left statusWord (exec (.sendRequest 0) (at_ .responseWaiting 0 0)) = some 0x00040003 := by decide

theorem test_send_response_in_delay :
    left State.txKind (exec (.sendResponse 0) { slave with status := .delay, response := 7 }) = some .response ∧
    left State.response (exec (.sendResponse 0) { slave with status := .delay, response := 7 }) = some 0 := by decide

theorem test_send_response_before_begin : left statusWord (exec (.sendResponse 0) (State.resetAs false)) = some 0 := by decide

theorem test_build_request_command : left State.txdata (exec (.buildRequest 0 7 0x19 0) (State.resetAs false)) = some 0x80190000 := by
  decide

theorem test_build_response_command :
    left State.txdata (exec (.buildResponse 1 4 0x19 0x1234) (State.resetAs false)) = some 0xC0191234 := by decide

theorem test_reserved_commands_refused :
    ∀ i ∈ [Instr.cmdReserved7 0, .cmdReserved8 0, .cmdReserved9 0, .cmdReservedA 0, .cmdReservedB 0, .cmdReservedC 0,
        .cmdReservedD 0, .cmdReservedE 0, .cmdReservedF 0],
      left statusWord (exec i ready) = some 0x00040001 := by decide

/-! ### Frame words (vector V2) -/

theorem test_frame_words :
    left State.rdata (exec (.frameReadData 1 0 0x19 0) ready) = some 0x00001902 ∧
    left State.rdata (exec (.frameWriteData 0 0 0x01 0x3C00) ready) = some 0x3C000112 ∧
    left State.rdata (exec (.frameInvalidData 1 0 0x05 0xABCD) ready) = some 0xABCD0520 ∧
    left State.rdata (exec (.frameMsgtypeReserved3 1 0 0 0) ready) = some 0x00000031 ∧
    left State.rdata (exec (.frameReadAck 0 1 0x19 0x1234) ready) = some 0x12341944 ∧
    left State.rdata (exec (.frameWriteAck 0 0 0x01 0x3C00) ready) = some 0x3C000151 ∧
    left State.rdata (exec (.frameDataInvalid 1 0 0x19 0) ready) = some 0x00001960 ∧
    left State.codecFrame (exec (.frameUnknownDataId 1 0 0x7B 0) ready) = some 0xF07B0000 := by decide

/-! ### Registers (vector Y3, program P8) -/

theorem test_status_words :
    statusWord (State.resetAs true) = 0x00000010 ∧
    statusWord { ready with status := .delay, responseStatus := .success, responseBitIndex := 32, done := true } = 0x0004A0A8 := by
  decide

theorem test_read_only_registers :
    left State.rdata (exec (.regResponse .read) { ready with response := 7 }) = some 7 ∧
    left State.rdata (exec (.regRespTs .read) (at_ .ready 9 8)) = some 8 ∧
    left State.rdata (exec (.regNow .read) (at_ .ready 9 8)) = some 9 ∧
    left State.rdata (exec (.regDoneFrame .read) { ready with doneFrame := 6 }) = some 6 ∧
    left State.now (exec (.regNow (.write 1)) (at_ .ready 9 8)) = some 9 := by decide

theorem test_irq_registers :
    left State.done (exec (.regIrqStatus (.write 0xFFFFFFFE)) { ready with done := true }) = some true ∧
    left State.done (exec (.regIrqStatus (.write 1)) { ready with done := true }) = some false ∧
    left irq (exec (.regIrqEnable (.write 0xFFFFFFFF)) { ready with done := true }) = some true := by decide

theorem test_codec_registers :
    left State.rdata (exec (.regCodecInfo .read) { ready with codecFrame := 0x41191234 }) = some 0x12341944 ∧
    left State.codecFrame (exec (.regCodecFrame (.write 5)) ready) = some 5 := by decide

theorem test_cmd_register :
    left State.rdata (exec (.regCmd .read) { ready with rdata := 3 }) = some 0 ∧
    left State.txdata (exec (.regCmd (.write 0x57190000)) ready) = some 0x80190000 := by decide

theorem test_txdata_register : left State.txdata (exec (.regTxdata (.write 0xB0000000)) ready) = some 0xB0000000 := by decide

theorem test_reserved_registers :
    ∀ i ∈ [Instr.regReserved2C .read, .regReserved30 .read, .regReserved34 .read, .regReserved38 .read, .regReserved3C .read],
      left State.rdata (exec i { ready with rdata := 3 }) = some 0 := by decide

/-! ### Edges (vector X1) -/

theorem test_edge_start_corner :
    left State.status (exec .edgeIdle (at_ .responseStartBit 40749 40000)) = some .responseReceiving ∧
    left State.status (exec .edgeIdle (at_ .responseStartBit 40750 40000)) = some .responseInvalid ∧
    left State.status (exec .edgeActive (at_ .responseStartBit 40100 40000)) = some .responseInvalid := by decide

theorem test_edge_sample_corner :
    left State.responseTimestamp (exec .edgeActive (at_ .responseReceiving 41499 40749)) = some 40749 ∧
    left State.response (exec .edgeIdle (at_ .responseReceiving 41500 40749)) = some 1 ∧
    left State.responseTimestamp (exec .edgeIdle (at_ .responseReceiving 0x2F0 0xFFFFFF00)) = some 0x2F0 := by decide

theorem test_edge_stop :
    left State.status
      (exec .edgeActive { at_ .responseReceiving 88500 87500 with responseBitIndex := 32, response := 0xC0191234 }) =
      some .responseReady := by decide

theorem test_edge_slave_start :
    left State.status (exec .edgeActive { slave with now := 5000 }) = some .responseStartBit ∧
    left State.status (exec .edgeActive { ready with now := 5000 }) = some .ready := by decide

/-! ### The wire, transmission and time (vectors T4, T5; rule R135) -/

theorem test_bit_symbols :
    left State.response (exec .bit1 { at_ .responseReceiving 56000 55500 with response := 1, responseBitIndex := 1 }) = some 3 ∧
    left State.response (exec .bit0 { at_ .responseReceiving 58000 57500 with response := 3, responseBitIndex := 2 }) = some 6 := by
  decide +kernel

theorem test_wire_frame :
    left (fun t => (t.status, t.response, t.responseBitIndex, t.responseTimestamp))
      (exec (.wireFrame true 0xC0191234 true) (at_ .responseWaiting 55000 35000)) =
      some (.responseReady, 0xC0191234, 32, 88500) := by decide +kernel

theorem test_levels :
    hpLevel 0x80190000 2 = .active ∧ hpLevel 0x80190000 3 = .idle ∧ hpLevel 0x80190000 4 = .idle ∧
    hpLevel 0x80190000 24 = .active ∧ hpLevel 0x80190000 65 = .active := by decide

theorem test_half_period_ends :
    (microsecond (sending 0 499)).txHp = 1 ∧ (microsecond (sending 0 499)).lineOut = .idle ∧
    (microsecond (sending 0 498)).txHp = 0 ∧ (microsecond (sending 67 499)).status = .responseWaiting := by decide

/-! ### Stops of a step -/

theorem test_misaligned_register : stop (step (given ready [.word (.reg 6 .read)])) = some .accessMisaligned := by decide

/-! ### Waveforms that spell no operation (rules R75, R198): a stop slot of 0, and a pulse longer than `T_SAMPLE` -/

theorem test_frame_with_stop_slot_zero :
    left (fun t => (t.status, t.response))
      (step (given (at_ .responseWaiting 55000 35000) [.word (.wire (wireWord true 0xC0191234 false))])) =
      some (.responseReady, 0xC0191234) := by decide +kernel

theorem test_long_pulse :
    left State.status (step (given (at_ .responseWaiting 55000 35000) [.word (.symbol 0b11)])) = some .responseStartBit ∧
    left State.status (exec .edgeIdle { at_ .responseStartBit 56000 55000 with rxPrev := .active }) = some .responseInvalid := by
  decide

theorem test_bridge_refuses :
    stop (step (given ready [.bus false 0 2 0])) = some .accessWidth ∧
    stop (step (given ready [.bus false 1 4 0])) = some .accessMisaligned := by decide

theorem test_bridge_outside (h : Config.baseBlock = 1) : stop (step (given ready [.bus false 128 4 0])) = some .accessOutsideWindow := by
  simp [step, stepOn, endPulse, given, bridge, stop, Config.base, h]

theorem test_fetch_word : left State.status (step (State.reset.withFetchWord 32 0x10000000)) = some .ready := by decide

theorem test_nothing_presented : left State.now (step State.reset) = some 1 := by decide

theorem test_pulse_ends : left State.doneValid (step { ready with doneValid := true }) = some false := by decide

/-! ### Witnesses: for each obligation with hypotheses, a state and operands that meet them, each clause at a boundary -/

theorem witness_DecodeAfterEncode : (Instr.wireFrame true 0xFFFFFFFF true).wf = true := by decide

theorem witness_StepRunsDecodedOperation :
    (given ready [.word (.cmd 0x30000000), .wait 5]).inputs = .word (.cmd 0x30000000) :: [.wait 5] ∧
    decodeBits (.cmd 0x30000000) = .ok (.sendRequest 0) ∧
    ((Instr.sendRequest 0).isHostAccess = true → (given ready [.word (.cmd 0x30000000), .wait 5]).txBusy = false) := by decide

theorem witness_HeldHostWaits :
    (given (sending 67 499) [.word (.reg 4 .read)]).inputs = .word (.reg 4 .read) :: [] ∧
    decodeBits (.reg 4 .read) = .ok (.regStatus .read) ∧ (Instr.regStatus .read).isHostAccess = true ∧
    (given (sending 67 499) [.word (.reg 4 .read)]).txBusy = true ∧
    (given (sending 67 499) [.bus false (Config.base + 4 * (15 : BitVec 4).toNat) 4 0]).inputs =
      .bus false (Config.base + 4 * (15 : BitVec 4).toNat) 4 0 :: [] ∧
    (given (sending 67 499) [.bus false (Config.base + 4 * (15 : BitVec 4).toNat) 4 0]).txBusy = true :=
  ⟨rfl, by decide, rfl, rfl, rfl, rfl⟩

theorem witness_EncodeAfterDecode : decodeBits (.wire 0x3FFFFFFFF) = .ok (.wireFrame true 0xFFFFFFFF true) := by decide

theorem witness_WireFrameNeedsStartAndStop :
    (given ready [.word (.wire (wireWord false 5 true))]).inputs = .word (.wire (wireWord false 5 true)) :: [] ∧
    (given ready [.word (.symbol 0b00)]).inputs = .word (.symbol 0b00) :: [] := ⟨rfl, rfl⟩

theorem witness_TimePasses :
    ready.inputs = [] ∧ ready.txBusy = false ∧ (given ready [.wait 0]).inputs = .wait 0 :: [] ∧
    step (given ready [.wait 0]) = .next ready := ⟨rfl, rfl, rfl, rfl⟩

theorem witness_ClockPeriodOrder :
    (given (sending 67 499) [.clock true .active (some ⟨0, .write 0x20000000⟩)]).inputs =
      .clock true .active (some ⟨0, .write 0x20000000⟩) :: [] ∧
    left State.status (step (given (sending 67 499) [.clock true .active (some ⟨0, .write 0x20000000⟩)])) =
      some .responseStartBit := by decide

theorem witness_BridgeTakesAlignedWords :
    (given ready [.bus true 0 3 0]).inputs = .bus true 0 3 0 :: [] ∧ 3 ≠ 4 ∧
    (given ready [.bus true 2 4 0]).inputs = .bus true 2 4 0 :: [] ∧ 2 % 4 ≠ 0 ∧
    (given ready [.bus true (Config.base + 60) 4 0]).inputs = .bus true (Config.base + 60) 4 0 :: [] ∧
    Config.base + 60 = Config.base + 4 * (15 : BitVec 4).toNat ∧ (given ready [.bus true (Config.base + 60) 4 0]).txBusy = false ∧
    (given ready [.bus true (Config.base + 64) 4 0]).inputs = .bus true (Config.base + 64) 4 0 :: [] ∧
    (Config.base + 64) % 4 = 0 ∧ (Config.base + 64 < Config.base ∨ Config.base + 64 ≤ Config.base + 64) ∧
    (given ready [.word (.reg 61 .read)]).inputs = .word (.reg 61 .read) :: [] ∧ (61 : BitVec 6).toNat % 4 ≠ 0 :=
  ⟨rfl, by decide, rfl, by decide, rfl, rfl, rfl, rfl, by unfold Config.base; omega, .inr (Nat.le_refl _), rfl, by decide⟩

theorem witness_ResetFromAnyState : (given (sending 3 250) [.reset true]).inputs = .reset true :: [] := rfl

theorem inv_sending : (sending 67 499).Inv := by constructor <;> decide

theorem inv_ready : ready.Inv := by constructor <;> decide

theorem inv_waiting : (at_ .responseWaiting 1035001 35000).Inv := by constructor <;> decide

theorem witness_StepKeepsInvariant : (sending 67 499).Inv ∧ ∃ t, step (sending 67 499) = .next t := ⟨inv_sending, _, rfl⟩

theorem witness_EveryOperationAnswers : (Instr.wireFrame true 0 true).isHostAccess = false ∧ ready.txBusy = false := by decide

theorem witness_InvariantAtReset : 0 < ({ Config.defaults with tHalf := 1 } : Config.Params).tHalf := by decide

theorem witness_StatusMovesExactly :
    ready.Inv ∧ AgentStep (.host (opcodeOf 0x30000000)) ready (cmdSendRequest ready) ∧
    StatusMove (.host (opcodeOf 0x30000000)) ready .requestSending ∧
    (at_ .responseWaiting 0 0).Inv ∧
    AgentStep (.edge .idle) (at_ .responseWaiting 0 0) (edgeEvent .idle (at_ .responseWaiting 0 0)) ∧
    StatusMove (.edge .idle) (at_ .responseWaiting 0 0) .responseInvalid ∧
    (sending 67 499).Inv ∧ AgentStep .transmit (sending 67 499) (microsecond (sending 67 499)) ∧
    StatusMove .transmit (sending 67 499) .responseWaiting ∧
    AgentStep .reset (sending 67 499) { State.resetWith (sending 67 499).params true with inputs := [] } ∧
    StatusMove .reset (sending 67 499) .notInitialized ∧ ∃ t, step (sending 67 499) = .next t :=
  ⟨inv_ready, .command _ _ _ rfl rfl, .sendRequest _ rfl, by constructor <;> decide, .edge _ _, .malformed _ rfl,
    inv_sending, .transmit _, .requestSent _ rfl ⟨by decide, by decide⟩ rfl, .reset _ _ _, .reset _, _, rfl⟩

/-- No frame word and no register but CMD is a POLL. -/
theorem irqStatus_not_poll (a : Access) : ¬ isCommand 2 (.regIrqStatus a) := by
  rintro (⟨w, h, e⟩ | ⟨w, h, e⟩)
  · have : (w.extractLsb' 28 4).toNat = 2 := by rw [show w.extractLsb' 28 4 = 2 from h]; rfl
    simp [decodeCmd, this] at e
  · simp at e

theorem witness_OnlyPollCompletes :
    (∃ t, exec (.regIrqStatus (.write 1)) { ready with done := true } = .next t) ∧ ¬ isCommand 2 (.regIrqStatus (.write 1)) :=
  ⟨⟨_, rfl⟩, irqStatus_not_poll _⟩

theorem witness_ExchangeEndsWithOneCompletion :
    (at_ .responseWaiting 1035001 35000).Inv ∧ (at_ .responseWaiting 1035001 35000).status.inExchange = true ∧
    left (fun t => t.status.inExchange) (exec (.poll 0) (at_ .responseWaiting 1035001 35000)) = some false ∧
    left (fun t => t.status.inExchange) (exec (.regIrqStatus .read) (at_ .responseWaiting 1035001 35000)) = some true ∧
    (at_ .responseWaiting 1035000 35000).Inv ∧
    left (fun t => t.status.inExchange) (exec (.poll 0) (at_ .responseWaiting 1035000 35000)) = some true ∧
    left (fun t => t.status.inExchange) (exec (.sendResponse 0) (at_ .responseWaiting 1035000 35000)) = some false :=
  ⟨inv_waiting, rfl, by decide, by decide, by constructor <;> decide, by decide, by decide⟩

theorem witness_ParityDetectsOddFlips : parity 0xC0191234 = false ∧ 31 < 32 ∧ popcount 0x81000001 % 2 = 1 ∧ popcount 0x81000000 % 2 = 0 := by decide

theorem witness_ToPayloadClampsAndTruncates :
    mkRat (-1) 256 < 0 ∧ (100 : Rat) < mkRat 25601 256 ∧ (0 : Rat) ≤ 0 ∧ (100 : Rat) ≤ 100 := by decide +kernel

theorem witness_FixedPointRoundTrip : (0 : Rat) ≤ mkRat 217 10 ∧ mkRat 217 10 ≤ 100 ∧ (0x6400 : BitVec 16).toNat ≤ 0x6400 := by
  decide +kernel

theorem witness_WindowFrame : (15 : BitVec 4) ≠ 0 := by decide

theorem witness_BeginOnce : (State.resetAs false).status = .notInitialized ∧ ready.status ≠ .notInitialized := by decide

theorem witness_SendsRefused : (at_ .delay 0 0).status ≠ .ready ∧ (State.resetAs false).status = .notInitialized := by decide

/-- The default parameters fit the counters, and a receiver built with them reads its own frames. -/
theorem defaults_read : Config.defaults.reads := by unfold Config.Params.reads Config.Params.fits; decide

theorem witness_RequestSentThenArmed : ready.params.fits ∧ ready.status = .ready := ⟨defaults_read.1, rfl⟩

theorem witness_ResponseSentThenReady :
    (at_ .delay 0 0).params.fits ∧ (at_ .delay 0 0).status ≠ .notInitialized ∧ (at_ .delay 0 0).status ≠ .requestSending :=
  ⟨defaults_read.1, by decide, by decide⟩

theorem witness_PollTimeout :
    (at_ .responseReceiving 1060501 60500).status = .responseReceiving ∧
    (at_ .responseReceiving 1060501 60500).params.tTimeout < ((at_ .responseReceiving 1060501 60500).now - (at_ .responseReceiving 1060501 60500).responseTimestamp).toNat ∧
    (at_ .responseWaiting 1035000 35000).status = .responseWaiting ∧
    ((at_ .responseWaiting 1035000 35000).now - (at_ .responseWaiting 1035000 35000).responseTimestamp).toNat ≤
      (at_ .responseWaiting 1035000 35000).params.tTimeout := by decide

theorem witness_PollCompleteFrame : (at_ .responseReady 0 0).status = .responseReady := rfl

theorem witness_PollMalformed : (at_ .responseInvalid 0 0).status = .responseInvalid := rfl

theorem witness_PollEndsDelay :
    (at_ .delay 0x86A1 0xFFFF0000).status = .delay ∧
    left State.status (exec (.poll 0) (at_ .delay 0x86A1 0xFFFF0000)) = some .ready ∧
    left State.status (exec (.poll 0) (at_ .delay 188500 88500)) = some .delay := by decide

theorem witness_PollElsewhere :
    (State.resetAs false).status = .notInitialized ∧ ready.status = .ready ∧ (sending 0 0).status = .requestSending := by decide

theorem witness_RefusalsChangeNothing :
    opcodeOf 0x30000000 = 3 ∧ (at_ .delay 0 0).status ≠ .ready ∧ opcodeOf 0x40000000 = 4 ∧ opcodeOf 0x10000000 = 1 ∧
    7 ≤ (opcodeOf 0x70000000).toNat ∧ ¬ 7 ≤ (opcodeOf 0x6FFFFFFF).toNat ∧ opcodeOf 0x6FFFFFFF ≠ 1 ∧
    opcodeOf 0x6FFFFFFF ≠ 3 ∧ opcodeOf 0x6FFFFFFF ≠ 4 := by decide

/-- An accepted SEND_REQUEST and an accepted SEND_RESPONSE, neither refused. -/
theorem witness_RefusalsChangeNothing_sends :
    (let s := ready
      let w : Word := 0x30000000
      ¬ ((opcodeOf w = 3 ∧ s.status ≠ .ready) ∨ (opcodeOf w = 4 ∧ s.status = .notInitialized) ∨
        (opcodeOf w = 1 ∧ s.status ≠ .notInitialized) ∨ 7 ≤ (opcodeOf w).toNat) ∧
      opcodeOf w = 3 ∧ s.status ≠ .requestSending) ∧
    (let s := at_ .delay 0 0
      let w : Word := 0x40000000
      ¬ ((opcodeOf w = 3 ∧ s.status ≠ .ready) ∨ (opcodeOf w = 4 ∧ s.status = .notInitialized) ∨
        (opcodeOf w = 1 ∧ s.status ≠ .notInitialized) ∨ 7 ≤ (opcodeOf w).toNat) ∧
      opcodeOf w = 4 ∧ s.status ≠ .requestSending) ∧
    ready.params = Config.defaults ∧ (at_ .delay 0 0).params = Config.defaults := by decide

theorem witness_LevelFunction : (1 ≤ 1 ∧ 1 ≤ 32) ∧ (1 ≤ 32 ∧ 32 ≤ 32) := by decide

theorem witness_TransmitAgentStep :
    ready.txBusy = false ∧
    (sending 0 498).txBusy = true ∧ (sending 0 498).txCnt.toNat + 1 < (sending 0 498).params.tHalf ∧
    (sending 66 499).txBusy = true ∧ (sending 66 499).params.tHalf ≤ (sending 66 499).txCnt.toNat + 1 ∧
    (sending 66 499).txHp.toNat < (sending 66 499).params.lastHp ∧
    (sending 67 499).txBusy = true ∧ (sending 67 499).params.tHalf ≤ (sending 67 499).txCnt.toNat + 1 ∧
    (sending 67 499).params.lastHp ≤ (sending 67 499).txHp.toNat := by decide

theorem witness_WaveformClosedForm :
    ready.status = .ready ∧ (at_ .delay 0 0).status ≠ .notInitialized ∧ ready.params.fits ∧ (at_ .delay 0 0).params.fits ∧
    (∃ t, exec (.sendRequest 0) ready = .next t) ∧ (∃ t, exec (.sendResponse 0) (at_ .delay 0 0) = .next t) ∧
    67 ≤ ready.params.lastHp ∧ 499 < ready.params.tHalf :=
  ⟨rfl, by decide, defaults_read.1, defaults_read.1, ⟨_, rfl⟩, ⟨_, rfl⟩, by decide, by decide⟩

theorem witness_OutputPin :
    (State.resetAs false).lineOe = false ∧ ready.lineOe = true ∧ (sending 67 499).Inv ∧ (sending 67 499).txBusy = true :=
  ⟨rfl, rfl, inv_sending, rfl⟩

theorem witness_EdgeWhileWaiting : (at_ .responseWaiting 55000 35000).status = .responseWaiting := rfl

theorem witness_EdgeInStartBit :
    (at_ .responseStartBit 40749 40000).status = .responseStartBit ∧
    (((at_ .responseStartBit 40749 40000).now - (at_ .responseStartBit 40749 40000).responseTimestamp).toNat <
        Config.defaults.tSample ∧
      Level.idle = .idle) ∧
    ¬ (((at_ .responseStartBit 40750 40000).now - (at_ .responseStartBit 40750 40000).responseTimestamp).toNat <
        Config.defaults.tSample ∧
      Level.idle = .idle) := by decide

theorem witness_EdgeWhileReceiving :
    (at_ .responseReceiving 41500 40749).status = .responseReceiving ∧
    (at_ .responseReceiving 41500 40749).params.tSample < ((at_ .responseReceiving 41500 40749).now - (at_ .responseReceiving 41500 40749).responseTimestamp).toNat ∧
    ({ at_ .responseReceiving 41500 40749 with responseBitIndex := 31 } : State).responseBitIndex.toNat < 32 ∧
    ({ at_ .responseReceiving 41500 40749 with responseBitIndex := 32 } : State).responseBitIndex = 32 := by decide

theorem witness_EarlyEdgeIgnored :
    (at_ .responseReceiving 41499 40749).status = .responseReceiving ∧
    ((at_ .responseReceiving 41499 40749).now - (at_ .responseReceiving 41499 40749).responseTimestamp).toNat ≤
      (at_ .responseReceiving 41499 40749).params.tSample := by decide

theorem witness_EdgeWhileReady :
    slave.status = .ready ∧ slave.isSlave = true ∧ ready.status = .ready ∧
    ¬ (ready.isSlave = true ∧ Level.active = .active) ∧ ¬ (slave.isSlave = true ∧ Level.idle = .active) := by decide

theorem witness_EdgeWithoutRow :
    (State.resetAs false).status = .notInitialized ∧ (sending 0 0).status = .requestSending ∧
    (at_ .responseReady 0 0).status = .responseReady ∧ (at_ .responseInvalid 0 0).status = .responseInvalid ∧
    (at_ .delay 0 0).status = .delay := by decide

theorem witness_SlotShiftsInOneBit :
    let s : State := { at_ .responseReceiving 56000 55500 with responseBitIndex := 31 }
    s.params.reads ∧ s.status = .responseReceiving ∧ s.txBusy = false ∧ s.responseBitIndex.toNat < 32 ∧
    (s.now - s.responseTimestamp).toNat = s.params.tHalf :=
  ⟨defaults_read, rfl, rfl, by decide, by decide⟩

theorem witness_ReceiverReadsEveryFrame :
    (at_ .responseWaiting 55000 35000).status = .responseWaiting ∧ (at_ .responseWaiting 55000 35000).txBusy = false ∧
    (at_ .responseWaiting 55000 35000).rxPrev = .idle ∧ (at_ .responseWaiting 55000 35000).params.reads ∧
    slave.status = .ready ∧ slave.isSlave = true ∧ slave.txBusy = false ∧ slave.rxPrev = .idle ∧ slave.params.reads :=
  ⟨rfl, rfl, rfl, defaults_read, rfl, rfl, rfl, rfl, defaults_read⟩

theorem witness_BlockingSendRequest :
    (at_ .delay 0 0).txBusy = false ∧ (at_ .delay 0 0).status ≠ .ready ∧ ready.txBusy = false ∧ ready.status = .ready ∧
    ready.isSlave = false ∧ (⟨[], [], [], []⟩ : LineScript).setup = [] ∧ ready.params.fits ∧
    ready.params.tTimeout < 1000001 ∧ 1000001 < 2 ^ 32 ∧
    (pollUntilReady [⟨[], []⟩, ⟨[.pass 1], [.pass 3]⟩] [.level .active] (at_ .responseWaiting 1035000 35000)).map
      (fun p => (p.1, p.2.responseStatus)) = some (0, .timeout) ∧
    (pollUntilReady [⟨[], [.level .active]⟩, ⟨[.pass 100001], []⟩] [.level .idle]
      { at_ .responseReady 88500 88500 with response := 0xC0191234 }).map (fun p => (p.1, p.2.status)) =
      some (0xC0191234, .ready) :=
  ⟨rfl, by decide, rfl, rfl, rfl, rfl, defaults_read.1, by decide, by decide, by decide, by decide⟩

theorem witness_LinkDeliversBothLegs :
    let l : Link := { left := ready, right := slave }
    let m : Link := { left := at_ .responseWaiting 36000 36000, right := { slave with status := .delay } }
    l.left.params = l.right.params ∧ l.left.params.reads ∧ l.left.txBusy = false ∧ l.left.lineOut = .idle ∧
    l.left.lineOe = true ∧ l.left.rxPrev = .idle ∧ l.right.txBusy = false ∧ l.right.lineOut = .idle ∧
    l.right.lineOe = true ∧ l.right.rxPrev = .idle ∧
    l.left.status = .ready ∧ l.left.isSlave = false ∧ l.right.status = .ready ∧ l.right.isSlave = true ∧
    m.left.params = m.right.params ∧ m.left.params.reads ∧ m.left.txBusy = false ∧ m.left.lineOut = .idle ∧
    m.left.lineOe = true ∧ m.left.rxPrev = .idle ∧ m.right.txBusy = false ∧ m.right.lineOut = .idle ∧
    m.right.lineOe = true ∧ m.right.rxPrev = .idle ∧
    m.left.status = .responseWaiting ∧ m.right.status ≠ .notInitialized ∧ m.right.status ≠ .requestSending :=
  ⟨rfl, defaults_read, rfl, rfl, rfl, rfl, rfl, rfl, rfl, rfl, rfl, rfl, rfl, rfl, rfl, defaults_read, rfl, rfl, rfl, rfl,
    rfl, rfl, rfl, rfl, rfl, by decide, by decide⟩

end Sys2Proof.Tests
end

section

/-! ## The state after reset (10_state.md §4) -/

namespace Sys2Proof.Machine

/-- Settles O10: the rows of rule R35 in the order of its table, each by the law of its state element. -/
theorem resetTable : Obligations.ResetTable := by
  unfold Obligations.ResetTable
  intro p strap
  exact ⟨resetWith_status p strap, resetWith_response p strap, resetWith_responseTimestamp p strap,
    resetWith_responseBitIndex p strap, resetWith_isSlave p strap, resetWith_responseStatus p strap,
    resetWith_now p strap, resetWith_txdata p strap, resetWith_txBusy p strap, resetWith_txKind p strap,
    resetWith_txFrame p strap, resetWith_txHp p strap, resetWith_txCnt p strap, resetWith_lineOut p strap,
    resetWith_lineOe p strap, resetWith_rxPrev p strap, resetWith_cmdOk p strap, resetWith_done p strap,
    resetWith_doneFrame p strap, resetWith_irqEn p strap, resetWith_codecFrame p strap⟩

end Sys2Proof.Machine
end

section

/-! ## The register window (20_memory.md) -/

namespace Sys2Proof.Machine

/-! ### What a write to each writable register but CMD does -/

theorem exec_regTxdata_write (v : Word) (s : State) : exec (.regTxdata (.write v)) s = .next { s with txdata := v } := rfl

theorem exec_regIrqEnable_write (v : Word) (s : State) :
    exec (.regIrqEnable (.write v)) s = .next { s with irqEn := v.getLsbD 0 } := rfl

theorem exec_regCodecFrame_write (v : Word) (s : State) :
    exec (.regCodecFrame (.write v)) s = .next { s with codecFrame := v } := rfl

/-- A 1 in bit 0 acknowledges the completion, a 0 there changes nothing (rule R47). -/
theorem exec_regIrqStatus_write (v : Word) (s : State) :
    exec (.regIrqStatus (.write v)) s = .next { s with done := s.done && !v.getLsbD 0 } := by
  change Host.Outcome.next (if v.getLsbD 0 then acknowledge s else s) = _
  cases v.getLsbD 0 with
  | true => simp [acknowledge]
  | false => simp

/-! ### The fields of the computed words -/

/-- A flag read as a whole word, as in IRQ_STATUS and IRQ_ENABLE (rule R47). -/
theorem setWidth_ofBool_eq_ite (b : Bool) : (BitVec.ofBool b).setWidth 32 = if b then (1 : Word) else 0 := by
  cases b <;> rfl

theorem levelBit_eq_ofBool (l : Level) : levelBit l = BitVec.ofBool (decide (l = .active)) := by
  cases l <;> rfl

theorem Status.code_eq_one_iff (st : Status) : st.code = 1 ↔ st = .ready := by
  cases st <;> decide

/-- The one-bit fields of STATUS (rule R44). -/
theorem statusWord_flags (s : State) :
    (statusWord s).getLsbD 4 = s.isSlave ∧ (statusWord s).getLsbD 7 = s.cmdOk ∧
    (statusWord s).getLsbD 14 = s.txBusy ∧ (statusWord s).getLsbD 15 = s.done ∧
    (statusWord s).getLsbD 16 = decide (s.rxPrev = .active) ∧
    (statusWord s).getLsbD 17 = decide (s.lineOut = .active) ∧ (statusWord s).getLsbD 18 = s.lineOe := by
  simp only [statusWord, levelBit_eq_ofBool, BitVec.getLsbD_append]
  simp

/-- The wider fields of STATUS, the reserved bits 31:19 among them (rule R44). -/
theorem statusWord_fields (s : State) :
    (statusWord s).extractLsb' 0 4 = s.status.code ∧ (statusWord s).extractLsb' 5 2 = s.responseStatus.code ∧
    (statusWord s).extractLsb' 8 6 = s.responseBitIndex ∧ (statusWord s).extractLsb' 19 13 = 0 := by
  simp (disch := decide) only [statusWord, extract_append_low, extract_append_above]
  simp

/-- The one-bit fields of CODEC_INFO, the reserved bits 3 and 7 among them (rule R48). -/
theorem codecInfo_flags (f : Word) :
    (codecInfo f).getLsbD 0 = parity f ∧ (codecInfo f).getLsbD 1 = isValidRequest f ∧
    (codecInfo f).getLsbD 2 = isValidResponse f ∧ (codecInfo f).getLsbD 3 = false ∧
    (codecInfo f).getLsbD 7 = false := by
  simp only [codecInfo, BitVec.getLsbD_append]
  simp

/-- The wider fields of CODEC_INFO (rule R48). -/
theorem codecInfo_fields (f : Word) :
    (codecInfo f).extractLsb' 4 3 = getMessageType f ∧ (codecInfo f).extractLsb' 8 8 = getDataId f ∧
    (codecInfo f).extractLsb' 16 16 = getUInt f := by
  simp (disch := decide) only [codecInfo, extract_append_low, extract_append_above]
  simp

/-! ### The registers -/

/-- Settles O27: a read returns `statusWord`, whose fields are those of rule R44. -/
theorem statusSnapshot : Obligations.StatusSnapshot := by
  unfold Obligations.StatusSnapshot
  refine ⟨rfl, rfl, fun s => ⟨statusWord s, exec_read 1 s, ?_⟩⟩
  obtain ⟨isSlave, cmdOk, txBusy, done, rxPrev, lineOut, lineOe⟩ := statusWord_flags s
  obtain ⟨status, responseStatus, bitIndex, reserved⟩ := statusWord_fields s
  have ready : (statusWord s).extractLsb' 0 4 = 1 ↔ s.status = .ready := by
    rw [status, Status.code_eq_one_iff]
  exact ⟨status, ready, isSlave, responseStatus, cmdOk, bitIndex, txBusy, done, rxPrev, lineOut, lineOe, reserved⟩

/-- Settles O28: CODEC_INFO reads `codecInfo` of what CODEC_FRAME holds, and its fields are those of rule R48. -/
theorem codecRegisters : Obligations.CodecRegisters := by
  unfold Obligations.CodecRegisters
  intro s v
  obtain ⟨parityBit, request, response, reserved3, reserved7⟩ := codecInfo_flags s.codecFrame
  obtain ⟨type, id, payload⟩ := codecInfo_fields s.codecFrame
  exact ⟨exec_regCodecFrame_write v s, exec_read 9 s, codecInfo s.codecFrame, exec_read 10 s,
    parityBit, request, response, reserved3, type, reserved7, id, payload⟩

/-- Settles O29: the write and the read of word 2 of the window. -/
theorem txdataRegister : Obligations.TxdataRegister := by
  unfold Obligations.TxdataRegister
  intro s v
  exact ⟨exec_regTxdata_write v s, exec_read 2 s⟩

/-- Settles O30: the reads return a flag as a word, and a write to IRQ_STATUS is the acknowledgement of rule R169. -/
theorem interruptRegisters : Obligations.InterruptRegisters := by
  unfold Obligations.InterruptRegisters
  intro s v
  rw [← setWidth_ofBool_eq_ite, ← setWidth_ofBool_eq_ite]
  exact ⟨exec_read 7 s, exec_regIrqStatus_write v s, exec_read 8 s, exec_regIrqEnable_write v s, rfl⟩

end Sys2Proof.Machine
end

section

/-! ## The commands without an effect of their own (30_encoding.md) -/

namespace Sys2Proof.Machine

theorem exec_nop (ign : BitVec 28) (s : State) : exec (.nop ign) s = .next (accept s) := rfl

/-- A refusal neither takes the port nor releases it (rules R49, R73). -/
@[simp] theorem refuse_portReady (s : State) : (refuse s).portReady = s.portReady := rfl

/-- What rule R73 asks of a reserved opcode holds of every operation that answers with `refuse`. -/
theorem refused_of_exec_eq {i : Instr} {s : State} (h : exec i s = .next (refuse s)) :
    exec i s = .next { s with cmdOk := false } ∧ ({ s with cmdOk := false } : State).portReady = s.portReady :=
  ⟨h, refuse_portReady s⟩

/-- Settles O35: NOP answers with `accept`, and each of the nine reserved opcodes with `refuse`. -/
theorem nopAndReservedOpcodes : Obligations.NopAndReservedOpcodes := by
  unfold Obligations.NopAndReservedOpcodes
  intro ign s
  exact ⟨exec_nop ign s, refused_of_exec_eq rfl, refused_of_exec_eq rfl, refused_of_exec_eq rfl,
    refused_of_exec_eq rfl, refused_of_exec_eq rfl, refused_of_exec_eq rfl, refused_of_exec_eq rfl,
    refused_of_exec_eq rfl, refused_of_exec_eq rfl⟩

end Sys2Proof.Machine
end

section

/-! ## The frame codec (40_codec.md) -/

namespace Sys2Proof.Machine

/-! ### Inspection -/

/-- `onesBelow` counts the bit positions that hold a 1 (rule R10). -/
theorem onesBelow_eq_length_filter (f : Word) (k : Nat) :
    onesBelow f k = ((List.range k).filter fun i => f.getLsbD i).length := by
  induction k with
  | zero => rfl
  | succ k ih =>
    rw [onesBelow, ih, List.range_succ, List.filter_append, List.length_append]
    cases h : f.getLsbD k <;> simp [h]

/-- A field of a word, widened, is the word shifted down and masked (rules R91, R92). -/
theorem setWidth_extractLsb'_eq_shift_and (f : Word) (start len : Nat) (h : len ≤ 32) :
    (f.extractLsb' start len).setWidth 32 = f >>> start &&& BitVec.ofNat 32 (2 ^ len - 1) := by
  apply BitVec.eq_of_toNat_eq
  have field : 2 ^ len ≤ 2 ^ 32 := Nat.pow_le_pow_right (by decide) h
  have mask : (BitVec.ofNat 32 (2 ^ len - 1)).toNat = 2 ^ len - 1 :=
    Nat.mod_eq_of_lt (Nat.sub_one_lt_of_le (by positivity) field)
  rw [BitVec.toNat_and, mask, Nat.and_two_pow_sub_one_eq_mod, BitVec.toNat_ushiftRight,
    BitVec.toNat_setWidth_of_le h, BitVec.extractLsb'_toNat]

/-- Settles O18: the recursive count is the length of the filtered positions, and both fields are a shift and a mask. -/
theorem inspectionFunctions : Obligations.InspectionFunctions := by
  unfold Obligations.InspectionFunctions
  refine ⟨fun f => ⟨?_, ?_, ?_⟩, by decide⟩
  · rw [parity, popcount, onesBelow_eq_length_filter]
    rfl
  · exact setWidth_extractLsb'_eq_shift_and f 28 3 (by decide)
  · exact setWidth_extractLsb'_eq_shift_and f 16 8 (by decide)

/-! ### Validity -/

theorem isValidRequest_iff (f : Word) :
    isValidRequest f = true ↔ parity f = false ∧ (getMessageType f = 0 ∨ getMessageType f = 1) := by
  simp [isValidRequest]

theorem isValidResponse_iff (f : Word) :
    isValidResponse f = true ↔ parity f = false ∧ (getMessageType f = 4 ∨ getMessageType f = 5) := by
  simp [isValidResponse]

/-- Settles O19: each predicate by its own `iff`, and the examples of rules R95 and R96 evaluated. -/
theorem validityPredicates : Obligations.ValidityPredicates := by
  unfold Obligations.ValidityPredicates
  exact ⟨fun f => ⟨isValidRequest_iff f, isValidResponse_iff f⟩, by decide⟩

/-! ### Construction -/

/-- The fields of rule R65 put together again are the word. -/
theorem frameWord_of_fields (f : Word) :
    frameWord (f.extractLsb' 31 1) (getMessageType f) (f.extractLsb' 24 4) (getDataId f) (getUInt f) = f := by
  simp only [frameWord, getMessageType, getDataId, getUInt]
  rw [BitVec.extractLsb'_append_extractLsb'_eq_extractLsb' (show 31 = 28 + 3 from rfl),
    BitVec.extractLsb'_append_extractLsb'_eq_extractLsb' (show 28 = 24 + 4 from rfl),
    BitVec.extractLsb'_append_extractLsb'_eq_extractLsb' (show 24 = 16 + 8 from rfl),
    BitVec.extractLsb'_append_extractLsb'_eq_extractLsb' (show 16 = 0 + 16 from rfl)]
  exact BitVec.extractLsb'_eq_self

/-- A built response is a frame word with SPARE 0 (rule R94). -/
theorem buildResponse_eq_frameWord (type : BitVec 3) (id : BitVec 8) (payload : BitVec 16) :
    buildResponse type id payload =
      frameWord ((buildResponse type id payload).extractLsb' 31 1) type 0 id payload := by
  obtain ⟨-, htype, hspare, hid, hpayload⟩ := buildResponse_fields type id payload
  have h := frameWord_of_fields (buildResponse type id payload)
  rw [htype, hspare, hid, hpayload] at h
  exact h.symm

theorem parity_buildResponse (type : BitVec 3) (id : BitVec 8) (payload : BitVec 16) :
    parity (buildResponse type id payload) = false :=
  (buildResponse_fields type id payload).1

theorem isValidRequest_buildResponse (type : BitVec 3) (id : BitVec 8) (payload : BitVec 16) :
    isValidRequest (buildResponse type id payload) = decide (type = 0 ∨ type = 1) := by
  obtain ⟨heven, htype, -⟩ := buildResponse_fields type id payload
  rw [Bool.eq_iff_iff, isValidRequest_iff, heven, htype]
  simp

theorem isValidResponse_buildResponse (type : BitVec 3) (id : BitVec 8) (payload : BitVec 16) :
    isValidResponse (buildResponse type id payload) = decide (type = 4 ∨ type = 5) := by
  obtain ⟨heven, htype, -⟩ := buildResponse_fields type id payload
  rw [Bool.eq_iff_iff, isValidResponse_iff, heven, htype]
  simp

/-- Settles O21: a built frame is the frame word of its fields, and its validity follows from its type alone, since its
parity is even. -/
theorem builtResponse : Obligations.BuiltResponse := by
  unfold Obligations.BuiltResponse
  exact ⟨fun type id payload => ⟨_, buildResponse_eq_frameWord type id payload, parity_buildResponse type id payload,
    isValidResponse_buildResponse type id payload, isValidRequest_buildResponse type id payload⟩, by decide⟩

/-- Settles O20: a built request is a built frame of type READ_DATA or WRITE_DATA, the two types of a valid request. -/
theorem builtRequest : Obligations.BuiltRequest := by
  unfold Obligations.BuiltRequest
  refine ⟨fun type id payload => ?_, by decide⟩
  rw [buildRequest_eq]
  refine ⟨_, buildResponse_eq_frameWord _ id payload, parity_buildResponse _ id payload, ?_⟩
  rw [isValidRequest_buildResponse, decide_eq_true_iff]
  split
  · exact .inr rfl
  · exact .inl rfl

/-! ### The views of a payload -/

theorem getUInt_toNat (f : Word) : (getUInt f).toNat = f.toNat % 65536 := by
  simp [getUInt]

theorem getHB_toNat (f : Word) : (getHB f).toNat = f.toNat / 256 % 256 := by
  simp [getHB, Nat.shiftRight_eq_div_pow]

theorem getLB_toNat (f : Word) : (getLB f).toNat = f.toNat % 256 := by
  simp [getLB]

/-- The sign bit of the payload is bit 15 of the frame (rule R98). -/
theorem getUInt_msb (f : Word) : (getUInt f).msb = f.getLsbD 15 := by
  simp [getUInt, BitVec.msb_eq_getLsbD_last]

/-- Settles O23: each view as arithmetic on the frame's number, the sign being bit 15. -/
theorem payloadViews : Obligations.PayloadViews := by
  unfold Obligations.PayloadViews
  intro f
  refine ⟨getUInt_toNat f, ?_, getHB_toNat f, getLB_toNat f, ?_, rfl⟩
  · rw [getInt, BitVec.toInt_eq_msb_cond, getUInt_msb]
    rfl
  · rw [getUInt_toNat, getHB_toNat, getLB_toNat]
    omega

/-! ### Temperatures -/

theorem clampPercent_mem (t : Rat) : 0 ≤ clampPercent t ∧ clampPercent t ≤ 100 := by
  unfold clampPercent
  split_ifs with hneg hbig
  · norm_num
  · norm_num
  · exact ⟨not_lt.mp hneg, not_lt.mp hbig⟩

theorem clampPercent_of_mem {t : Rat} (h0 : 0 ≤ t) (h100 : t ≤ 100) : clampPercent t = t := by
  rw [clampPercent, if_neg (not_lt.mpr h0), if_neg (not_lt.mpr h100)]

/-- Clamped before it is scaled, the value fits the payload (rule R101). -/
theorem floor_clampPercent_mem (t : Rat) :
    0 ≤ (clampPercent t * 256).floor ∧ (clampPercent t * 256).floor ≤ 0x6400 := by
  obtain ⟨hlo, hhi⟩ := clampPercent_mem t
  constructor
  · rw [Rat.le_floor_iff]
    push_cast
    linarith
  · rw [← Int.lt_add_one_iff, Rat.floor_lt_iff]
    push_cast
    linarith

/-- The payload is the floor of the clamped and scaled value: no bit of it is cut off (rule R101). -/
theorem fromFixedPointFloat_toNat (t : Rat) :
    ((fromFixedPointFloat t).toNat : Int) = (clampPercent t * 256).floor := by
  obtain ⟨hlo, hhi⟩ := floor_clampPercent_mem t
  rw [fromFixedPointFloat, BitVec.toNat_ofInt]
  omega

theorem fromFixedPointFloat_le (t : Rat) : (fromFixedPointFloat t).toNat ≤ 0x6400 := by
  have := fromFixedPointFloat_toNat t
  have := floor_clampPercent_mem t
  omega

theorem fromFixedPointFloat_toNat_of_mem {t : Rat} (h0 : 0 ≤ t) (h100 : t ≤ 100) :
    ((fromFixedPointFloat t).toNat : Int) = (t * 256).floor := by
  rw [fromFixedPointFloat_toNat, clampPercent_of_mem h0 h100]

theorem fromFixedPointFloat_of_neg {t : Rat} (h : t < 0) : fromFixedPointFloat t = 0 := by
  have : clampPercent t * 256 = ((0 : Int) : Rat) := by simp [clampPercent, h]
  rw [fromFixedPointFloat, this, Rat.floor_intCast]
  rfl

theorem fromFixedPointFloat_of_gt {t : Rat} (h : 100 < t) : fromFixedPointFloat t = 0x6400 := by
  have : clampPercent t * 256 = ((0x6400 : Int) : Rat) := by
    norm_num [clampPercent, h, show ¬ t < 0 by linarith]
  rw [fromFixedPointFloat, this, Rat.floor_intCast]
  rfl

/-- Settles O24: the payload is the floor of the clamped and scaled value, which lies in 0 to 0x6400. -/
theorem toPayloadClampsAndTruncates : Obligations.ToPayloadClampsAndTruncates := by
  unfold Obligations.ToPayloadClampsAndTruncates
  refine ⟨fun t => fromFixedPointFloat_of_neg, fun t => fromFixedPointFloat_of_gt,
    fun t => fromFixedPointFloat_toNat_of_mem, fun t => ⟨fromFixedPointFloat_le t, ?_⟩⟩
  exact Nat.testBit_lt_two_pow ((fromFixedPointFloat_le t).trans_lt (by decide))

/-- A payload up to 0x6400 has its sign bit clear, so its value is unsigned (rules R98, R100). -/
theorem toFixedPointFloat_of_le {p : BitVec 16} (h : p.toNat ≤ 0x6400) :
    toFixedPointFloat p = (p.toNat : Rat) / 256 := by
  rw [toFixedPointFloat, BitVec.toInt_eq_toNat_of_lt (by omega), Int.cast_natCast]

/-- Truncation loses less than one unit of the payload (rule R102). -/
theorem toFixedPointFloat_fromFixedPointFloat_near {t : Rat} (h0 : 0 ≤ t) (h100 : t ≤ 100) :
    |toFixedPointFloat (fromFixedPointFloat t) - t| < 1 / 256 := by
  have floor : ((fromFixedPointFloat t).toNat : Rat) = ((t * 256).floor : Rat) := by
    exact_mod_cast fromFixedPointFloat_toNat_of_mem h0 h100
  have below := Rat.floor_le (t * 256)
  have above : t * 256 - 1 < (t * 256).floor := Rat.lt_floor
  rw [toFixedPointFloat_of_le (fromFixedPointFloat_le t), floor, abs_lt]
  constructor <;> linarith

theorem fromFixedPointFloat_toFixedPointFloat {p : BitVec 16} (h : p.toNat ≤ 0x6400) :
    fromFixedPointFloat (toFixedPointFloat p) = p := by
  have payload_le : (p.toNat : Rat) ≤ 0x6400 := by exact_mod_cast h
  have scaled : (p.toNat : Rat) / 256 * 256 = ((p.toNat : Int) : Rat) := by norm_num
  have nonneg : 0 ≤ (p.toNat : Rat) / 256 := by positivity
  have le_100 : (p.toNat : Rat) / 256 ≤ 100 := by linarith
  apply BitVec.eq_of_toNat_eq
  rw [toFixedPointFloat_of_le h]
  zify
  rw [fromFixedPointFloat_toNat_of_mem nonneg le_100, scaled, Rat.floor_intCast]

/-- Settles O25: up to 0x6400 no payload is negative, so both ways are a floor and a division by 256. -/
theorem fixedPointRoundTrip : Obligations.FixedPointRoundTrip := by
  unfold Obligations.FixedPointRoundTrip
  exact ⟨fun _ => rfl, fun _ => toFixedPointFloat_fromFixedPointFloat_near,
    fun _ => fromFixedPointFloat_toFixedPointFloat⟩

end Sys2Proof.Machine
end

section

/-! ## The transmit encoder (41_transmit.md) -/

namespace Sys2Proof.Machine

/-! ### The output pin -/

/-- High impedance (rule R25). -/
theorem lineOutPin_of_not_lineOe {s : State} (h : s.lineOe = false) : lineOutPin s = none := by
  simp [lineOutPin, h]

theorem lineOutPin_of_lineOe {s : State} (h : s.lineOe = true) :
    lineOutPin s = some (pinOfLevel s.params.txPinActiveLevel s.lineOut) := by
  simp [lineOutPin, h]

/-- Sending is REQUEST_SENDING, and the pin is undriven in NOT_INITIALIZED alone (rule R36 (c), (f)). -/
theorem State.Inv.lineOe_of_txBusy {s : State} (inv : s.Inv) (busy : s.txBusy = true) : s.lineOe = true := by
  have sending : s.status = .requestSending := inv.busy.mp busy
  have begun : s.status ≠ .notInitialized := by simp [sending]
  exact Bool.eq_true_of_not_eq_false (mt inv.driven.mp begun)

/-- Settles O50: the two cases of `lineOe`, the driven one by the line level, and the invariant for a sending engine. -/
theorem outputPin : Obligations.OutputPin := by
  unfold Obligations.OutputPin
  refine ⟨rfl, fun s => ⟨lineOutPin_of_not_lineOe, fun driven => ?_, State.Inv.lineOe_of_txBusy⟩⟩
  rw [lineOutPin_of_lineOe driven]
  cases s.lineOut <;> rfl

end Sys2Proof.Machine
end

section

/-! ## The receive state machine (42_receive.md) -/

namespace Sys2Proof.Machine

/-- An edge operation is the event itself (rule R134). -/
theorem exec_edgeInstr (lvl : Level) (s : State) : exec (edgeInstr lvl) s = .next (edgeEvent lvl s) := by
  cases lvl <;> rfl

/-! ### The row of each status

The handler runs on the state whose detector holds the new level, which no row reads (rules R26, R134). -/

theorem edgeEvent_waiting {s : State} (h : s.status = .responseWaiting) (lvl : Level) :
    edgeEvent lvl s = edgeWaiting lvl { s with rxPrev := lvl } :=
  edgeHandler_waiting (s := { s with rxPrev := lvl }) h lvl

theorem edgeEvent_startBit {s : State} (h : s.status = .responseStartBit) (lvl : Level) :
    edgeEvent lvl s = edgeStartBit lvl { s with rxPrev := lvl } :=
  edgeHandler_startBit (s := { s with rxPrev := lvl }) h lvl

theorem edgeEvent_receiving {s : State} (h : s.status = .responseReceiving) (lvl : Level) :
    edgeEvent lvl s = edgeReceiving lvl { s with rxPrev := lvl } :=
  edgeHandler_receiving (s := { s with rxPrev := lvl }) h lvl

theorem edgeEvent_slave_start {s : State} (h : s.status = .ready) (r : s.isSlave = true) :
    edgeEvent .active s = edgeWaiting .active { s with rxPrev := .active } :=
  edgeHandler_slave_start (s := { s with rxPrev := .active }) h r

theorem edgeEvent_ready_ignores {s : State} (h : s.status = .ready) {lvl : Level}
    (k : s.isSlave = false ∨ lvl = .idle) : edgeEvent lvl s = { s with rxPrev := lvl } :=
  edgeHandler_ready_ignores (s := { s with rxPrev := lvl }) h k

theorem edgeEvent_deaf {s : State} (lvl : Level)
    (h : s.status = .notInitialized ∨ s.status = .requestSending ∨ s.status = .responseReady ∨
      s.status = .responseInvalid ∨ s.status = .delay) : edgeEvent lvl s = { s with rxPrev := lvl } :=
  edgeHandler_deaf (s := { s with rxPrev := lvl }) lvl h

/-! ### The branches of a row -/

/-- The start bit's own middle (rule R127). -/
theorem edgeStartBit_of_middle {lvl : Level} {s : State} (h : s.sinceEvent < s.params.tSample ∧ lvl = .idle) :
    edgeStartBit lvl s =
      { s with status := .responseReceiving, responseBitIndex := 0, responseTimestamp := s.now } :=
  if_pos h

/-- A malformed start bit (rule R128). -/
theorem edgeStartBit_of_not_middle {lvl : Level} {s : State}
    (h : ¬ (s.sinceEvent < s.params.tSample ∧ lvl = .idle)) :
    edgeStartBit lvl s = { s with status := .responseInvalid, responseTimestamp := s.now } :=
  if_neg h

/-- A data bit (rule R129). -/
theorem edgeReceiving_of_lt {lvl : Level} {s : State} (late : s.params.tSample < s.sinceEvent)
    (more : s.responseBitIndex.toNat < 32) :
    edgeReceiving lvl s =
      { s with
        response := shiftIn s.response lvl
        responseBitIndex := s.responseBitIndex + 1
        responseTimestamp := s.now } := by
  rw [edgeReceiving, if_pos late, if_pos more]

/-- The stop bit, whatever its level (rule R130). -/
theorem edgeReceiving_of_not_lt {lvl : Level} {s : State} (late : s.params.tSample < s.sinceEvent)
    (full : ¬ s.responseBitIndex.toNat < 32) :
    edgeReceiving lvl s = { s with status := .responseReady, responseTimestamp := s.now } := by
  rw [edgeReceiving, if_pos late, if_neg full]

/-! ### The statements -/

/-- Settles O51: the RESPONSE_WAITING row, evaluated at either level. -/
theorem edgeWhileWaiting : Obligations.EdgeWhileWaiting := by
  unfold Obligations.EdgeWhileWaiting
  intro s waiting
  exact ⟨congrArg Host.Outcome.next (edgeEvent_waiting waiting .active),
    congrArg Host.Outcome.next (edgeEvent_waiting waiting .idle)⟩

/-- Settles O52: the two branches of the RESPONSE_START_BIT row. -/
theorem edgeInStartBit : Obligations.EdgeInStartBit := by
  unfold Obligations.EdgeInStartBit
  refine ⟨rfl, fun s lvl startBit => ?_⟩
  rw [exec_edgeInstr, edgeEvent_startBit startBit]
  exact ⟨fun middle => congrArg Host.Outcome.next (edgeStartBit_of_middle middle),
    fun notMiddle => congrArg Host.Outcome.next (edgeStartBit_of_not_middle notMiddle)⟩

/-- Settles O53: the two branches of the RESPONSE_RECEIVING row for an edge after `T_SAMPLE`, by the bit index. -/
theorem edgeWhileReceiving : Obligations.EdgeWhileReceiving := by
  unfold Obligations.EdgeWhileReceiving
  refine ⟨rfl, fun s lvl receiving late => ?_⟩
  rw [exec_edgeInstr, edgeEvent_receiving receiving]
  refine ⟨fun more => congrArg Host.Outcome.next (edgeReceiving_of_lt late more), fun last => ?_⟩
  have full : ¬ s.responseBitIndex.toNat < 32 := by rw [last]; decide
  exact congrArg Host.Outcome.next (edgeReceiving_of_not_lt late full)

/-- Settles O55: a slave's edge to ACTIVE runs the RESPONSE_WAITING row, every other edge is ignored. -/
theorem edgeWhileReady : Obligations.EdgeWhileReady := by
  unfold Obligations.EdgeWhileReady
  intro s lvl ready
  rw [exec_edgeInstr]
  refine ⟨fun slave active => ?_, fun noStart => ?_⟩
  · subst active
    exact congrArg Host.Outcome.next (edgeEvent_slave_start ready slave)
  · have ignored : s.isSlave = false ∨ lvl = .idle := by
      cases lvl with
      | active => exact .inl (Bool.eq_false_of_not_eq_true fun slave => noStart ⟨slave, rfl⟩)
      | idle => exact .inr rfl
    rw [edgeEvent_ready_ignores ready ignored]

/-- Settles O56: the handler has no row for any of the five statuses. -/
theorem edgeWithoutRow : Obligations.EdgeWithoutRow := by
  unfold Obligations.EdgeWithoutRow
  intro s lvl noRow
  rw [exec_edgeInstr, edgeEvent_deaf lvl noRow]

end Sys2Proof.Machine
end

section

/-! ## The host session (43_session.md) -/

namespace Sys2Proof.Machine

/-! ### What each command answers -/

/-- The first BEGIN (rule R142). -/
theorem exec_beginLink_of_notInitialized {s : State} (h : s.status = .notInitialized) (ign : BitVec 28) :
    exec (.beginLink ign) s = .next (accept { s with lineOe := true, lineOut := .idle, status := .ready }) :=
  congrArg Host.Outcome.next (if_pos h)

/-- Any later BEGIN (rule R142). -/
theorem exec_beginLink_of_ne {s : State} (h : s.status ≠ .notInitialized) (ign : BitVec 28) :
    exec (.beginLink ign) s = .next (refuse s) :=
  congrArg Host.Outcome.next (if_neg h)

/-- An accepted SEND_REQUEST (rule R144). -/
theorem exec_sendRequest_of_ready {s : State} (h : s.status = .ready) (ign : BitVec 28) :
    exec (.sendRequest ign) s = .next (acceptSend .request s) :=
  congrArg Host.Outcome.next (if_pos h)

/-- A SEND_REQUEST outside READY (rule R143). -/
theorem exec_sendRequest_of_ne {s : State} (h : s.status ≠ .ready) (ign : BitVec 28) :
    exec (.sendRequest ign) s = .next (refuse s) :=
  congrArg Host.Outcome.next (if_neg h)

/-- A SEND_RESPONSE before BEGIN (rule R146). -/
theorem exec_sendResponse_of_notInitialized {s : State} (h : s.status = .notInitialized) (ign : BitVec 28) :
    exec (.sendResponse ign) s = .next (refuse s) :=
  congrArg Host.Outcome.next (if_pos h)

/-- An accepted SEND_RESPONSE (rule R147). -/
theorem exec_sendResponse_of_ne {s : State} (h : s.status ≠ .notInitialized) (ign : BitVec 28) :
    exec (.sendResponse ign) s = .next (acceptSend .response s) :=
  congrArg Host.Outcome.next (if_neg h)

/-- The age of the last event, written out (rule R10). -/
theorem State.sinceEvent_eq (s : State) : s.sinceEvent = (s.now - s.responseTimestamp).toNat := rfl

/-- POLL is its effect on the session, accepted (rule R149). -/
theorem exec_poll (ign : BitVec 28) (s : State) : exec (.poll ign) s = .next (accept (pollEffect s)) := rfl

/-- A write to CMD answers what the command its word decodes to answers (rule R42). -/
theorem exec_regCmd_write_of_decode {w : Word} {i : Instr} (d : decodeCmd w = i) (s : State) :
    exec (.regCmd (.write w)) s = exec i s :=
  d ▸ runCommand_eq_exec w s

theorem exec_buildRequest (rsv : BitVec 1) (type : BitVec 3) (id : BitVec 8) (data : BitVec 16) (s : State) :
    exec (.buildRequest rsv type id data) s = .next { s with txdata := buildRequest type id data, cmdOk := true } := rfl

theorem exec_buildResponse (rsv : BitVec 1) (type : BitVec 3) (id : BitVec 8) (data : BitVec 16) (s : State) :
    exec (.buildResponse rsv type id data) s = .next { s with txdata := buildResponse type id data, cmdOk := true } := rfl

/-! ### The completion outputs and the role's predicate -/

/-- In the step of a completion event the outputs carry it (rule R164). -/
theorem completionOutput_of_doneValid {s : State} (h : s.doneValid = true) :
    completionOutput s = some (s.doneFrame, s.responseStatus) :=
  if_pos h

/-- After the pulse they carry nothing (rule R164). -/
@[simp] theorem completionOutput_endPulse (s : State) : completionOutput (endPulse s) = none := rfl

/-- A slave takes requests, a master responses (rules R74, R95, R96). -/
theorem isValidFor_iff (isSlave : Bool) (f : Word) :
    isValidFor isSlave f = true ↔
      parity f = false ∧
        (if isSlave then getMessageType f = 0 ∨ getMessageType f = 1
          else getMessageType f = 4 ∨ getMessageType f = 5) := by
  cases isSlave with
  | true => simpa [isValidFor] using isValidRequest_iff f
  | false => simpa [isValidFor] using isValidResponse_iff f

/-! ### An accepted send, microsecond by microsecond -/

/-- Every frame starts with the first half of a start bit (rule R63). -/
@[simp] theorem hpLevel_zero (f : Word) : hpLevel f 0 = .active := rfl

/-- The port is held from the acceptance step on (rule R49). -/
@[simp] theorem acceptSend_portReady (kind : TxKind) (s : State) : (acceptSend kind s).portReady = false := rfl

/-- The frame is latched at acceptance (rule R110). -/
@[simp] theorem acceptSend_txFrame (kind : TxKind) (s : State) : (acceptSend kind s).txFrame = s.txdata := rfl

/-- The final step of either kind of frame releases the port (rule R117). -/
@[simp] theorem finalStep_portReady (s : State) : (finalStep s).portReady = true := by
  unfold finalStep
  split <;> rfl

/-- A frame lasts its `lastHp + 1` half-periods (rules R6, R63). -/
theorem tFrame_eq_halfPeriods {p : Config.Params} (fits : p.fits) : p.tHalf * p.lastHp + p.tHalf = p.tFrame := by
  obtain ⟨-, -, slots_pos, -⟩ := fits
  have last : p.lastHp + 1 = 2 * p.nSlots := by unfold Config.Params.lastHp; omega
  rw [← Nat.mul_add_one, last, Config.Params.tFrame, Config.Params.tBit]
  ac_rfl

/-- The state `j` microseconds into half-period `k` of the frame of an accepted send (rule R114). -/
def inFlight (kind : TxKind) (s : State) (k j : Nat) : State :=
  { acceptSend kind s with
    now := s.now + BitVec.ofNat 32 (s.params.tHalf * k + j)
    txHp := BitVec.ofNat 7 k
    txCnt := BitVec.ofNat 9 j
    lineOut := hpLevel s.txdata k }

theorem inFlight_zero (kind : TxKind) (s : State) : inFlight kind s 0 0 = acceptSend kind s := by
  simp [inFlight, acceptSend, startTransmission]

section

variable {s : State} (fits : s.params.fits) (kind : TxKind) {k j : Nat}
include fits

/-- The counters hold `k` and `j` themselves: they fit 7 and 9 bits (rule R24). -/
theorem inFlight_counters (hk : k ≤ s.params.lastHp) (hj : j < s.params.tHalf) :
    (inFlight kind s k j).txHp.toNat = k ∧ (inFlight kind s k j).txCnt.toNat = j := by
  obtain ⟨-, half_le, slots_pos, slots_le⟩ := fits
  unfold Config.Params.lastHp at hk
  exact ⟨Nat.mod_eq_of_lt (by omega : k < 2 ^ 7), Nat.mod_eq_of_lt (by omega : j < 2 ^ 9)⟩

/-- A microsecond inside a half-period (rule R113). -/
theorem microsecond_inFlight_inside (hk : k ≤ s.params.lastHp) (hj : j + 1 < s.params.tHalf) :
    microsecond (inFlight kind s k j) = inFlight kind s k (j + 1) := by
  obtain ⟨-, count⟩ := inFlight_counters fits kind hk (Nat.lt_of_succ_lt hj)
  rw [microsecond_busy rfl, txStep_inside (by rw [tick_txCnt, count]; exact hj)]
  simp [inFlight, tick, ← Nat.add_assoc, BitVec.ofNat_add, BitVec.add_assoc]

/-- The last microsecond of a half-period that another follows (rule R113). -/
theorem microsecond_inFlight_boundary (hk : k < s.params.lastHp) (hj : j + 1 = s.params.tHalf) :
    microsecond (inFlight kind s k j) = inFlight kind s (k + 1) 0 := by
  obtain ⟨index, count⟩ := inFlight_counters fits kind hk.le hj.le
  rw [microsecond_busy rfl,
    txStep_boundary (by rw [tick_txCnt, count]; exact hj.ge) (by rw [tick_txHp, index]; exact hk), tick_txHp, index]
  simp [inFlight, tick, ← hj, Nat.mul_add, ← Nat.add_assoc, BitVec.ofNat_add, BitVec.add_assoc]

/-- The last microsecond of the frame (rule R117). -/
theorem microsecond_inFlight_last (hj : j + 1 = s.params.tHalf) :
    microsecond (inFlight kind s s.params.lastHp j) =
      finalStep { acceptSend kind s with now := s.now + BitVec.ofNat 32 s.params.tFrame } := by
  obtain ⟨index, count⟩ := inFlight_counters fits kind le_rfl hj.le
  rw [microsecond_busy rfl,
    txStep_final (by rw [tick_txCnt, count]; exact hj.ge) (by rw [tick_txHp, index]; exact le_rfl)]
  have time : s.params.tHalf * s.params.lastHp + j + 1 = s.params.tFrame := by
    rw [Nat.add_assoc, hj, tFrame_eq_halfPeriods fits]
  rw [← time, BitVec.ofNat_add, ← BitVec.add_assoc]
  cases kind <;> rfl

/-- Through one half-period. -/
theorem iterate_microsecond_inFlight (hk : k ≤ s.params.lastHp) (hj : j < s.params.tHalf) :
    microsecond^[j] (inFlight kind s k 0) = inFlight kind s k j := by
  induction j with
  | zero => rfl
  | succ j ih => rw [Function.iterate_succ_apply', ih (Nat.lt_of_succ_lt hj), microsecond_inFlight_inside fits kind hk hj]

/-- From half-period to half-period. -/
theorem iterate_microsecond_acceptSend_boundary (hk : k ≤ s.params.lastHp) :
    microsecond^[s.params.tHalf * k] (acceptSend kind s) = inFlight kind s k 0 := by
  have half_pos : 0 < s.params.tHalf := fits.1
  induction k with
  | zero => exact (inFlight_zero kind s).symm
  | succ k ih =>
    have split : s.params.tHalf * (k + 1) = 1 + (s.params.tHalf - 1) + s.params.tHalf * k := by
      rw [Nat.mul_succ]; omega
    rw [split, Function.iterate_add_apply, ih (Nat.le_of_succ_le hk), Function.iterate_add_apply,
      iterate_microsecond_inFlight fits kind (Nat.le_of_succ_le hk) (by omega)]
    exact microsecond_inFlight_boundary fits kind hk (by omega)

/-- The closed form of the waveform of every accepted send, up to its last microsecond (rule R114). -/
theorem iterate_microsecond_acceptSend (hk : k ≤ s.params.lastHp) (hj : j < s.params.tHalf) :
    microsecond^[s.params.tHalf * k + j] (acceptSend kind s) = inFlight kind s k j := by
  rw [Nat.add_comm, Function.iterate_add_apply, iterate_microsecond_acceptSend_boundary fits kind hk,
    iterate_microsecond_inFlight fits kind hk hj]

/-- `T_FRAME` after its acceptance every send takes its final step (rules R114, R117). -/
theorem iterate_microsecond_tFrame_acceptSend :
    microsecond^[s.params.tFrame] (acceptSend kind s) =
      finalStep { acceptSend kind s with now := s.now + BitVec.ofNat 32 s.params.tFrame } := by
  have half_pos : 0 < s.params.tHalf := fits.1
  have time : s.params.tFrame = (s.params.tHalf * s.params.lastHp + (s.params.tHalf - 1)) + 1 := by
    rw [← tFrame_eq_halfPeriods fits]; omega
  rw [← microsecond_inFlight_last fits kind (Nat.sub_add_cancel half_pos), time, Function.iterate_succ_apply',
    iterate_microsecond_acceptSend fits kind le_rfl (Nat.sub_lt half_pos Nat.one_pos)]

end

/-! ### The statements -/

/-- Settles O38: the acceptance step, then the final step of a request `T_FRAME` later. -/
theorem requestSentThenArmed : Obligations.RequestSentThenArmed := by
  unfold Obligations.RequestSentThenArmed
  refine ⟨rfl, fun ign s fits ready => ⟨acceptSend .request s, exec_sendRequest_of_ready ready ign, rfl,
    acceptSend_portReady .request s, ?_⟩⟩
  rw [iterate_microsecond_tFrame_acceptSend fits]
  exact ⟨finalStep_portReady _, rfl⟩

/-- Settles O39: the acceptance step, then the final step of a response `T_FRAME` later. -/
theorem responseSentThenReady : Obligations.ResponseSentThenReady := by
  unfold Obligations.ResponseSentThenReady
  refine ⟨rfl, fun ign s fits begun _ => ⟨acceptSend .response s, exec_sendResponse_of_ne begun ign, rfl,
    acceptSend_portReady .response s, ?_⟩⟩
  rw [iterate_microsecond_tFrame_acceptSend fits]
  exact ⟨finalStep_portReady _, rfl⟩

/-- Settles O36: BEGIN by whether it is the first. -/
theorem beginOnce : Obligations.BeginOnce := by
  unfold Obligations.BeginOnce
  intro ign s
  exact ⟨fun first => exec_beginLink_of_notInitialized first ign, fun later => exec_beginLink_of_ne later ign⟩

/-- Settles O37: both sends answer with `refuse` there. -/
theorem sendsRefused : Obligations.SendsRefused := by
  unfold Obligations.SendsRefused
  intro ign s
  exact ⟨fun notReady => exec_sendRequest_of_ne notReady ign, fun early => exec_sendResponse_of_notInitialized early ign⟩

/-- Settles O40: the two sides of the strict comparison; a second POLL meets READY, which it leaves alone. -/
theorem pollTimeout : Obligations.PollTimeout := by
  unfold Obligations.PollTimeout
  refine ⟨rfl, fun ign s receiving => ?_⟩
  rw [exec_poll, pollEffect_receiving receiving, State.sinceEvent_eq]
  refine ⟨fun silent => ?_, fun early => ?_⟩
  · rw [if_pos silent]
    refine ⟨_, rfl, rfl, completionOutput_of_doneValid rfl, completionOutput_endPulse _, ?_⟩
    rw [exec_poll, pollEffect_nothing (.inr (.inl rfl))]
    rfl
  · rw [if_neg (Nat.not_lt.mpr early)]
    rfl

/-- Settles O41: the event carries SUCCESS exactly if the frame is valid for the role. -/
theorem pollCompleteFrame : Obligations.PollCompleteFrame := by
  unfold Obligations.PollCompleteFrame
  intro ign s complete
  rw [exec_poll, pollEffect_complete complete]
  refine ⟨_, rfl, completionOutput_of_doneValid rfl, ?_⟩
  simp only [accept, emitCompletion, isValidFor_iff]

/-- Settles O42: the event carries INVALID. -/
theorem pollMalformed : Obligations.PollMalformed := by
  unfold Obligations.PollMalformed
  intro ign s malformed
  rw [exec_poll, pollEffect_malformed malformed]
  exact ⟨_, rfl, completionOutput_of_doneValid rfl, rfl⟩

/-- Settles O43: POLL's effect in DELAY is the strict comparison itself, and emits nothing on either side. -/
theorem pollEndsDelay : Obligations.PollEndsDelay := by
  unfold Obligations.PollEndsDelay
  refine ⟨rfl, fun ign s delay => ?_⟩
  rw [exec_poll, pollEffect_delay delay, State.sinceEvent_eq, apply_ite accept]
  rfl

/-- Settles O45: a builder stores the codec's frame; the four words decode to builders of the codec's own examples. -/
theorem buildCommands : Obligations.BuildCommands := by
  unfold Obligations.BuildCommands
  obtain ⟨-, writeData, readData, -⟩ := builtRequest
  obtain ⟨-, readAck, writeAck, -⟩ := builtResponse
  refine ⟨fun rsv type id data s => ⟨exec_buildRequest rsv type id data s, exec_buildResponse rsv type id data s⟩,
    fun s => ⟨?_, ?_, ?_, ?_⟩⟩
  · rw [← writeData]
    exact exec_regCmd_write_of_decode rfl s
  · rw [← readData]
    exact exec_regCmd_write_of_decode rfl s
  · rw [← readAck]
    exact exec_regCmd_write_of_decode rfl s
  · rw [← writeAck]
    exact exec_regCmd_write_of_decode rfl s

end Sys2Proof.Machine
end

section

/-! ## Encodings (30_encoding.md) -/

namespace Sys2Proof.Machine

open Sys2Proof.Laws

/-- Every operation has its round trip among the laws (rules R41, R60, R62, R65, R70). -/
theorem decode_encode (i : Instr) : EncodingRoundTrip.Statement i := by
  cases i with
  | nop ign => exact EncodingRoundTrip.nop ign
  | beginLink ign => exact EncodingRoundTrip.beginLink ign
  | poll ign => exact EncodingRoundTrip.poll ign
  | sendRequest ign => exact EncodingRoundTrip.sendRequest ign
  | sendResponse ign => exact EncodingRoundTrip.sendResponse ign
  | buildRequest rsv type id data => exact EncodingRoundTrip.buildRequest rsv type id data
  | buildResponse rsv type id data => exact EncodingRoundTrip.buildResponse rsv type id data
  | cmdReserved7 ign => exact EncodingRoundTrip.cmdReserved7 ign
  | cmdReserved8 ign => exact EncodingRoundTrip.cmdReserved8 ign
  | cmdReserved9 ign => exact EncodingRoundTrip.cmdReserved9 ign
  | cmdReservedA ign => exact EncodingRoundTrip.cmdReservedA ign
  | cmdReservedB ign => exact EncodingRoundTrip.cmdReservedB ign
  | cmdReservedC ign => exact EncodingRoundTrip.cmdReservedC ign
  | cmdReservedD ign => exact EncodingRoundTrip.cmdReservedD ign
  | cmdReservedE ign => exact EncodingRoundTrip.cmdReservedE ign
  | cmdReservedF ign => exact EncodingRoundTrip.cmdReservedF ign
  | frameReadData p spare id payload => exact EncodingRoundTrip.frameReadData p spare id payload
  | frameWriteData p spare id payload => exact EncodingRoundTrip.frameWriteData p spare id payload
  | frameInvalidData p spare id payload => exact EncodingRoundTrip.frameInvalidData p spare id payload
  | frameMsgtypeReserved3 p spare id payload => exact EncodingRoundTrip.frameMsgtypeReserved3 p spare id payload
  | frameReadAck p spare id payload => exact EncodingRoundTrip.frameReadAck p spare id payload
  | frameWriteAck p spare id payload => exact EncodingRoundTrip.frameWriteAck p spare id payload
  | frameDataInvalid p spare id payload => exact EncodingRoundTrip.frameDataInvalid p spare id payload
  | frameUnknownDataId p spare id payload => exact EncodingRoundTrip.frameUnknownDataId p spare id payload
  | wireFrame start f stop => exact EncodingRoundTrip.wireFrame start f stop
  | bit1 => exact EncodingRoundTrip.bit1
  | bit0 => exact EncodingRoundTrip.bit0
  | edgeActive => exact EncodingRoundTrip.edgeActive
  | edgeIdle => exact EncodingRoundTrip.edgeIdle
  | regCmd a => exact EncodingRoundTrip.regCmd a
  | regStatus a => exact EncodingRoundTrip.regStatus a
  | regTxdata a => exact EncodingRoundTrip.regTxdata a
  | regResponse a => exact EncodingRoundTrip.regResponse a
  | regRespTs a => exact EncodingRoundTrip.regRespTs a
  | regNow a => exact EncodingRoundTrip.regNow a
  | regDoneFrame a => exact EncodingRoundTrip.regDoneFrame a
  | regIrqStatus a => exact EncodingRoundTrip.regIrqStatus a
  | regIrqEnable a => exact EncodingRoundTrip.regIrqEnable a
  | regCodecFrame a => exact EncodingRoundTrip.regCodecFrame a
  | regCodecInfo a => exact EncodingRoundTrip.regCodecInfo a
  | regReserved2C a => exact EncodingRoundTrip.regReserved2C a
  | regReserved30 a => exact EncodingRoundTrip.regReserved30 a
  | regReserved34 a => exact EncodingRoundTrip.regReserved34 a
  | regReserved38 a => exact EncodingRoundTrip.regReserved38 a
  | regReserved3C a => exact EncodingRoundTrip.regReserved3C a

/-- Settles O2: the round trip of each of the 45 operations. -/
theorem decodeAfterEncode : Obligations.DecodeAfterEncode := by
  unfold Obligations.DecodeAfterEncode
  exact decode_encode

/-- The round trip on the bits of the interface, before they are written as bytes. -/
theorem decodeBits_bitsOf {i : Instr} (wf : i.wf = true) : decodeBits (bitsOf i) = .ok i := by
  have bytes := decode_encode i wf
  cases d : decodeBits (bitsOf i) with
  | ok j => rw [encode, decode_bytesOf d, Except.ok.injEq] at bytes; rw [bytes]
  | error m => rw [encode, decode_bytesOf_misfit d] at bytes; cases bytes

/-! ### The fields of a layout, put together again -/

theorem cmdWord_of_fields (w : Word) : cmdWord (w.extractLsb' 28 4) (w.extractLsb' 0 28) = w := by
  rw [cmdWord, BitVec.extractLsb'_append_extractLsb'_eq_extractLsb' (show 28 = 0 + 28 from rfl)]
  exact BitVec.extractLsb'_eq_self

theorem buildRest_of_fields (w : Word) :
    buildRest (w.extractLsb' 27 1) (w.extractLsb' 24 3) (w.extractLsb' 16 8) (w.extractLsb' 0 16) =
      w.extractLsb' 0 28 := by
  rw [buildRest, BitVec.extractLsb'_append_extractLsb'_eq_extractLsb' (show 27 = 24 + 3 from rfl),
    BitVec.extractLsb'_append_extractLsb'_eq_extractLsb' (show 24 = 16 + 8 from rfl),
    BitVec.extractLsb'_append_extractLsb'_eq_extractLsb' (show 16 = 0 + 16 from rfl)]

theorem wireWord_of_slots {v : BitVec 34} (start : v.getLsbD 33 = true) (stop : v.getLsbD 0 = true) :
    wireWord true (v.extractLsb' 1 32) true = v := by
  apply BitVec.eq_of_getLsbD_eq
  intro i hi
  simp only [wireWord, BitVec.getLsbD_append, BitVec.getLsbD_extractLsb']
  obtain rfl | positive := Nat.eq_zero_or_pos i
  · simp [stop]
  · have below : ¬ i < 1 := by omega
    by_cases last : i = 33
    · subst last; simp [start]
    · have inside : i - 1 < 32 ∧ 1 + (i - 1) = i := by omega
      simp [below, inside]

/-- An aligned offset is the word index with two zeros below it (rule R41). -/
theorem offset_of_aligned : ∀ offset : BitVec 6, offset.extractLsb' 0 2 = 0 →
    offset.extractLsb' 2 4 ++ (0 : BitVec 2) = offset := by decide

/-! ### The bits a decoded operation is written by -/

theorem cmdBits_of_opcode {w : Word} {opc : BitVec 4} (h : (w.extractLsb' 28 4).toNat = opc.toNat) :
    cmdBits opc (w.extractLsb' 0 28) = .cmd w := by
  rw [← BitVec.eq_of_toNat_eq h, cmdBits, cmdWord_of_fields]

theorem cmdBits_of_build_opcode {w : Word} {opc : BitVec 4} (h : (w.extractLsb' 28 4).toNat = opc.toNat) :
    cmdBits opc (buildRest (w.extractLsb' 27 1) (w.extractLsb' 24 3) (w.extractLsb' 16 8) (w.extractLsb' 0 16)) =
      .cmd w := by
  rw [buildRest_of_fields, cmdBits_of_opcode h]

/-- Every command word, its ignored bits included, is that of its command (rules R70, R72, R73). -/
theorem bitsOf_decodeCmd (w : Word) : bitsOf (decodeCmd w) = .cmd w := by
  have width := (w.extractLsb' 28 4).isLt
  unfold decodeCmd
  split
  case h_6 h | h_7 h => exact cmdBits_of_build_opcode h
  case h_16 =>
    have last : (w.extractLsb' 28 4).toNat = (15 : BitVec 4).toNat := by
      simp only [imp_false] at *
      have : (15 : BitVec 4).toNat = 15 := rfl
      omega
    exact cmdBits_of_opcode last
  all_goals
    rename_i h
    exact cmdBits_of_opcode h

theorem wf_decodeCmd (w : Word) : (decodeCmd w).wf = true := by
  unfold decodeCmd
  split <;> rfl

theorem wf_decodeFrame (w : Word) : (decodeFrame w).wf = true := by
  unfold decodeFrame
  split <;> rfl

theorem wf_regInstr (index : BitVec 4) (a : Access) : (regInstr index a).wf = true := by
  unfold regInstr
  split <;> rfl

theorem frameWord_of_type {w : Word} {type : BitVec 3} (h : (w.extractLsb' 28 3).toNat = type.toNat) :
    frameWord (w.extractLsb' 31 1) type (w.extractLsb' 24 4) (w.extractLsb' 16 8) (w.extractLsb' 0 16) = w := by
  rw [← BitVec.eq_of_toNat_eq h]
  exact frameWord_of_fields w

/-- Every frame word, its SPARE bits included, is that of its message type (rules R65, R66). -/
theorem bitsOf_decodeFrame (w : Word) : bitsOf (decodeFrame w) = .frame w := by
  have width := (w.extractLsb' 28 3).isLt
  unfold decodeFrame
  split
  case h_8 =>
    have last : (w.extractLsb' 28 3).toNat = (7 : BitVec 3).toNat := by
      simp only [imp_false] at *
      have : (7 : BitVec 3).toNat = 7 := rfl
      omega
    exact congrArg Bits.frame (frameWord_of_type last)
  all_goals
    rename_i h
    exact congrArg Bits.frame (frameWord_of_type h)

/-- A register access is written at the offset of its word index (rule R41). -/
theorem bitsOf_regInstr (index : BitVec 4) (a : Access) : bitsOf (regInstr index a) = regBits index a := by
  have width := index.isLt
  have number : BitVec.ofNat 4 index.toNat = index := by simp
  unfold regInstr
  split
  case h_16 =>
    simp only [imp_false] at *
    rw [show index.toNat = 15 by omega] at number
    rw [← number]; rfl
  all_goals
    rename_i h
    rw [h] at number
    rw [← number]; rfl

/-! ### No bit is dropped -/

/-- Whatever bits an operation was decoded from, it is well formed and written by those bits. -/
theorem wf_and_bitsOf_of_decodeBits {b : Bits} {i : Instr} (d : decodeBits b = .ok i) : i.wf = true ∧ bitsOf i = b := by
  cases b with
  | cmd w =>
    cases d
    exact ⟨wf_decodeCmd w, bitsOf_decodeCmd w⟩
  | frame w =>
    cases d
    exact ⟨wf_decodeFrame w, bitsOf_decodeFrame w⟩
  | wire v =>
    simp only [decodeBits, decodeWire] at d
    split at d
    · split at d
      · cases d
        exact ⟨rfl, congrArg Bits.wire (wireWord_of_slots ‹_› ‹_›)⟩
      · cases d
    · cases d
  | symbol v =>
    have cover : ∀ v : BitVec 2, v = 0 ∨ v = 1 ∨ v = 2 ∨ v = 3 := by decide
    rcases cover v with rfl | rfl | rfl | rfl <;> cases d <;> exact ⟨rfl, rfl⟩
  | event v =>
    have cover : ∀ v : BitVec 1, v = 0 ∨ v = 1 := by decide
    rcases cover v with rfl | rfl <;> cases d <;> exact ⟨rfl, rfl⟩
  | reg offset a =>
    simp only [decodeBits, decodeReg] at d
    split at d
    · cases d
    · rename_i aligned
      cases d
      refine ⟨wf_regInstr _ a, ?_⟩
      rw [bitsOf_regInstr, regBits, offset_of_aligned offset (not_not.mp aligned)]

/-- Settles O3: the bits are written again by the operation they decode to, format by format. -/
theorem encodeAfterDecode : Obligations.EncodeAfterDecode := by
  unfold Obligations.EncodeAfterDecode
  refine ⟨fun b i d => ?_, fun w => ⟨congrArg bytesOf (bitsOf_decodeCmd w), congrArg bytesOf (bitsOf_decodeFrame w)⟩⟩
  obtain ⟨wf, bits⟩ := wf_and_bitsOf_of_decodeBits d
  exact ⟨wf, bits, congrArg bytesOf bits⟩

/-- Settles O1: each word evaluated. -/
theorem writtenWordsDecode : Obligations.WrittenWordsDecode := by
  unfold Obligations.WrittenWordsDecode
  decide

end Sys2Proof.Machine
end

section

/-! ## What an operation can do

Which operations there are besides the commands, what each of them answers, and everything a command can do (rules R41, R70,
R140). -/

namespace Sys2Proof.Machine

/-! ### The kinds of operation -/

theorem wf_of_isHostAccess {i : Instr} (host : i.isHostAccess = true) : i.wf = true := by
  cases i with
  | wireFrame start f stop => cases host
  | _ => rfl

/-- The host issues command words, frame words and register accesses (rule R5). -/
theorem hostAccess_cases {i : Instr} (host : i.isHostAccess = true) :
    (∃ w, i = decodeCmd w) ∨ (∃ w, i = decodeFrame w) ∨ ∃ index a, i = regInstr index a := by
  have d := decodeBits_bitsOf (wf_of_isHostAccess host)
  cases b : bitsOf i with
  | cmd w => rw [b] at d; exact .inl ⟨w, (Except.ok.inj d).symm⟩
  | frame w => rw [b] at d; exact .inr (.inl ⟨w, (Except.ok.inj d).symm⟩)
  | reg offset a =>
    rw [b] at d
    simp only [decodeBits, decodeReg] at d
    split at d
    · cases d
    · exact .inr (.inr ⟨_, a, (Except.ok.inj d).symm⟩)
  | wire v | symbol v | event v =>
    cases i with
    | wireFrame | bit1 | bit0 | edgeActive | edgeIdle => cases host
    | _ => cases b

/-- On the line there are frames, symbols and edges (rules R60, R62, R125). -/
theorem lineOperation_cases {i : Instr} (line : i.isHostAccess = false) :
    (∃ start f stop, i = .wireFrame start f stop) ∨ (∃ b, i = symbolInstr b) ∨ ∃ lvl, i = edgeInstr lvl := by
  cases i with
  | wireFrame start f stop => exact .inl ⟨start, f, stop, rfl⟩
  | bit1 => exact .inr (.inl ⟨true, rfl⟩)
  | bit0 => exact .inr (.inl ⟨false, rfl⟩)
  | edgeActive => exact .inr (.inr ⟨.active, rfl⟩)
  | edgeIdle => exact .inr (.inr ⟨.idle, rfl⟩)
  | _ => cases line

/-- A command is the run of its word, whether as a row of its own or as a write to CMD (rule R42). -/
theorem runCommand_of_isCommand {opc : BitVec 4} {i : Instr} (command : isCommand opc i) :
    ∃ w, opcodeOf w = opc ∧ ∀ s, exec i s = runCommand w s := by
  obtain ⟨w, code, rfl⟩ | ⟨w, code, rfl⟩ := command
  · exact ⟨w, code, fun s => (runCommand_eq_exec w s).symm⟩
  · exact ⟨w, code, fun _ => rfl⟩

/-! ### The accesses that are no command -/

/-- What is encoded as a frame word is the inspection of that word (log 9). -/
theorem exec_of_frameBits {i : Instr} {w : Word} (b : bitsOf i = .frame w) (s : State) :
    exec i s = .next (inspectFrame w s) := by
  cases i with
  | frameReadData | frameWriteData | frameInvalidData | frameMsgtypeReserved3 | frameReadAck | frameWriteAck
    | frameDataInvalid | frameUnknownDataId => cases b; rfl
  | _ => cases b

/-- Every frame word goes to the codec, whatever its message type (log 9). -/
theorem exec_decodeFrame (w : Word) (s : State) : exec (decodeFrame w) s = .next (inspectFrame w s) :=
  exec_of_frameBits (bitsOf_decodeFrame w) s

/-- A write to a word of the window other than CMD: four registers are written, the other words ignore it (rules R43, R47,
R48, R53, R54). -/
theorem exec_write {index : BitVec 4} (notCmd : index ≠ 0) (v : Word) (s : State) :
    exec (regInstr index (.write v)) s = .next
      (if index = 2 then { s with txdata := v } else if index = 7 then { s with done := s.done && !v.getLsbD 0 }
        else if index = 8 then { s with irqEn := v.getLsbD 0 } else if index = 9 then { s with codecFrame := v }
        else s) := by
  by_cases irq : index = 7
  · subst irq
    exact exec_regIrqStatus_write v s
  · have cover : ∀ k : BitVec 4, k ≠ 0 → k ≠ 7 → k ∈ [1#4, 2, 3, 4, 5, 6, 8, 9, 10, 11, 12, 13, 14, 15] := by decide
    have listed := cover index notCmd irq
    simp only [List.mem_cons, List.not_mem_nil, or_false] at listed
    rcases listed with h | h | h | h | h | h | h | h | h | h | h | h | h | h <;> subst h <;> rfl

/-- `t` differs from `s` in nothing but the registers the host writes besides the commands, and `rdata`. -/
def hostRegistersOnly (s t : State) : Prop :=
  t = { s with txdata := t.txdata, done := t.done, irqEn := t.irqEn, codecFrame := t.codecFrame, rdata := t.rdata }

/-- Everything a host access can do: run a command, or touch the host's registers, where `done` is IRQ_STATUS's alone
(rules R42 to R48, R53, R54). -/
theorem exec_hostAccess_cases {i : Instr} {s t : State} (host : i.isHostAccess = true) (h : exec i s = .next t) :
    (∃ w, isCommand (opcodeOf w) i ∧ runCommand w s = .next t) ∨
    ((∀ opc, ¬ isCommand opc i) ∧ hostRegistersOnly s t ∧ (t.done = s.done ∨ ∃ v, i = .regIrqStatus (.write v))) := by
  by_cases command : ∃ opc, isCommand opc i
  · obtain ⟨opc, command⟩ := command
    obtain ⟨w, rfl, run⟩ := runCommand_of_isCommand command
    exact .inl ⟨w, command, run s ▸ h⟩
  · refine .inr ⟨not_exists.mp command, ?_⟩
    obtain ⟨w, rfl⟩ | ⟨w, rfl⟩ | ⟨index, a, rfl⟩ := hostAccess_cases host
    · exact absurd ⟨_, .inl ⟨w, rfl, rfl⟩⟩ command
    · rw [exec_decodeFrame] at h
      cases h
      exact ⟨rfl, .inl rfl⟩
    · cases a with
      | read =>
        rw [exec_read] at h
        cases h
        exact ⟨rfl, .inl rfl⟩
      | write v =>
        have notCmd : index ≠ 0 := by
          rintro rfl
          exact command ⟨_, .inr ⟨v, rfl, rfl⟩⟩
        rw [exec_write notCmd, Host.Outcome.next.injEq] at h
        subst h
        by_cases irq : index = 7
        · subst irq
          exact ⟨rfl, .inr ⟨v, rfl⟩⟩
        · rw [if_neg irq]
          split_ifs <;> exact ⟨rfl, .inl rfl⟩

/-! ### The commands -/

theorem cmdBegin_of_notInitialized {s : State} (h : s.status = .notInitialized) :
    cmdBegin s = accept { s with lineOe := true, lineOut := .idle, status := .ready } := if_pos h

theorem cmdBegin_of_ne {s : State} (h : s.status ≠ .notInitialized) : cmdBegin s = refuse s := if_neg h

theorem cmdSendRequest_of_ready {s : State} (h : s.status = .ready) : cmdSendRequest s = acceptSend .request s :=
  if_pos h

theorem cmdSendRequest_of_ne {s : State} (h : s.status ≠ .ready) : cmdSendRequest s = refuse s := if_neg h

theorem cmdSendResponse_of_notInitialized {s : State} (h : s.status = .notInitialized) : cmdSendResponse s = refuse s :=
  if_pos h

theorem cmdSendResponse_of_ne {s : State} (h : s.status ≠ .notInitialized) :
    cmdSendResponse s = acceptSend .response s := if_neg h

/-- Everything a command can do, by its opcode (rules R70, R72, R73). -/
theorem runCommand_cases {w : Word} {s t : State} (h : runCommand w s = .next t) :
    (opcodeOf w = 1 ∧ t = cmdBegin s) ∨ (opcodeOf w = 2 ∧ t = cmdPoll s) ∨ (opcodeOf w = 3 ∧ t = cmdSendRequest s) ∨
    (opcodeOf w = 4 ∧ t = cmdSendResponse s) ∨
    ((opcodeOf w = 0 ∨ opcodeOf w = 5 ∨ opcodeOf w = 6) ∧ ∃ f, t = accept { s with txdata := f }) ∨
    (7 ≤ (opcodeOf w).toNat ∧ t = refuse s) := by
  have code : ∀ {opc : BitVec 4}, (w.extractLsb' 28 4).toNat = opc.toNat → opcodeOf w = opc := BitVec.eq_of_toNat_eq
  unfold runCommand at h
  split at h
  case h_1 e => cases h; exact .inr (.inr (.inr (.inr (.inl ⟨.inl (code e), s.txdata, rfl⟩))))
  case h_2 e => cases h; exact .inl ⟨code e, rfl⟩
  case h_3 e => cases h; exact .inr (.inl ⟨code e, rfl⟩)
  case h_4 e => cases h; exact .inr (.inr (.inl ⟨code e, rfl⟩))
  case h_5 e => cases h; exact .inr (.inr (.inr (.inl ⟨code e, rfl⟩)))
  case h_6 e => cases h; exact .inr (.inr (.inr (.inr (.inl ⟨.inr (.inl (code e)), _, rfl⟩))))
  case h_7 e => cases h; exact .inr (.inr (.inr (.inr (.inl ⟨.inr (.inr (code e)), _, rfl⟩))))
  case h_16 =>
    have reserved : 7 ≤ (w.extractLsb' 28 4).toNat := by
      simp only [imp_false] at *
      omega
    cases h
    exact .inr (.inr (.inr (.inr (.inr ⟨reserved, rfl⟩))))
  all_goals
    rename_i e
    have reserved : 7 ≤ (w.extractLsb' 28 4).toNat := by omega
    cases h
    exact .inr (.inr (.inr (.inr (.inr ⟨reserved, rfl⟩))))

end Sys2Proof.Machine
end

section

/-! ## What the line and the passing of time leave alone (rules R113, R174) -/

namespace Sys2Proof.Machine

/-! ### An edge event, field by field -/

@[simp] theorem edgeEvent_isSlave (lvl : Level) (s : State) : (edgeEvent lvl s).isSlave = s.isSlave := by
  rw [edgeEvent_frame]
@[simp] theorem edgeEvent_responseStatus (lvl : Level) (s : State) : (edgeEvent lvl s).responseStatus = s.responseStatus := by
  rw [edgeEvent_frame]
@[simp] theorem edgeEvent_txdata (lvl : Level) (s : State) : (edgeEvent lvl s).txdata = s.txdata := by
  rw [edgeEvent_frame]
@[simp] theorem edgeEvent_txKind (lvl : Level) (s : State) : (edgeEvent lvl s).txKind = s.txKind := by
  rw [edgeEvent_frame]
@[simp] theorem edgeEvent_txFrame (lvl : Level) (s : State) : (edgeEvent lvl s).txFrame = s.txFrame := by
  rw [edgeEvent_frame]
@[simp] theorem edgeEvent_txHp (lvl : Level) (s : State) : (edgeEvent lvl s).txHp = s.txHp := by rw [edgeEvent_frame]
@[simp] theorem edgeEvent_txCnt (lvl : Level) (s : State) : (edgeEvent lvl s).txCnt = s.txCnt := by
  rw [edgeEvent_frame]
@[simp] theorem edgeEvent_lineOut (lvl : Level) (s : State) : (edgeEvent lvl s).lineOut = s.lineOut := by
  rw [edgeEvent_frame]
@[simp] theorem edgeEvent_lineOe (lvl : Level) (s : State) : (edgeEvent lvl s).lineOe = s.lineOe := by
  rw [edgeEvent_frame]
@[simp] theorem edgeEvent_cmdOk (lvl : Level) (s : State) : (edgeEvent lvl s).cmdOk = s.cmdOk := by
  rw [edgeEvent_frame]
@[simp] theorem edgeEvent_done (lvl : Level) (s : State) : (edgeEvent lvl s).done = s.done := by rw [edgeEvent_frame]
@[simp] theorem edgeEvent_doneFrame (lvl : Level) (s : State) : (edgeEvent lvl s).doneFrame = s.doneFrame := by
  rw [edgeEvent_frame]
@[simp] theorem edgeEvent_irqEn (lvl : Level) (s : State) : (edgeEvent lvl s).irqEn = s.irqEn := by
  rw [edgeEvent_frame]
@[simp] theorem edgeEvent_codecFrame (lvl : Level) (s : State) : (edgeEvent lvl s).codecFrame = s.codecFrame := by
  rw [edgeEvent_frame]
@[simp] theorem edgeEvent_doneValid (lvl : Level) (s : State) : (edgeEvent lvl s).doneValid = s.doneValid := by
  rw [edgeEvent_frame]
@[simp] theorem edgeEvent_rdata (lvl : Level) (s : State) : (edgeEvent lvl s).rdata = s.rdata := by
  rw [edgeEvent_frame]
@[simp] theorem edgeEvent_params (lvl : Level) (s : State) : (edgeEvent lvl s).params = s.params := by
  rw [edgeEvent_frame]
@[simp] theorem edgeEvent_inputs (lvl : Level) (s : State) : (edgeEvent lvl s).inputs = s.inputs := by
  rw [edgeEvent_frame]

/-! ### A microsecond, field by field -/

@[simp] theorem microsecond_now (s : State) : (microsecond s).now = s.now + 1 := by rw [microsecond_frame]
@[simp] theorem microsecond_response (s : State) : (microsecond s).response = s.response := by rw [microsecond_frame]
@[simp] theorem microsecond_responseBitIndex (s : State) : (microsecond s).responseBitIndex = s.responseBitIndex := by
  rw [microsecond_frame]
@[simp] theorem microsecond_isSlave (s : State) : (microsecond s).isSlave = s.isSlave := by rw [microsecond_frame]
@[simp] theorem microsecond_responseStatus (s : State) : (microsecond s).responseStatus = s.responseStatus := by
  rw [microsecond_frame]
@[simp] theorem microsecond_txdata (s : State) : (microsecond s).txdata = s.txdata := by rw [microsecond_frame]
@[simp] theorem microsecond_txKind (s : State) : (microsecond s).txKind = s.txKind := by rw [microsecond_frame]
@[simp] theorem microsecond_txFrame (s : State) : (microsecond s).txFrame = s.txFrame := by rw [microsecond_frame]
@[simp] theorem microsecond_lineOe (s : State) : (microsecond s).lineOe = s.lineOe := by rw [microsecond_frame]
@[simp] theorem microsecond_rxPrev (s : State) : (microsecond s).rxPrev = s.rxPrev := by rw [microsecond_frame]
@[simp] theorem microsecond_done (s : State) : (microsecond s).done = s.done := by rw [microsecond_frame]
@[simp] theorem microsecond_doneFrame (s : State) : (microsecond s).doneFrame = s.doneFrame := by
  rw [microsecond_frame]
@[simp] theorem microsecond_irqEn (s : State) : (microsecond s).irqEn = s.irqEn := by rw [microsecond_frame]
@[simp] theorem microsecond_codecFrame (s : State) : (microsecond s).codecFrame = s.codecFrame := by
  rw [microsecond_frame]
@[simp] theorem microsecond_doneValid (s : State) : (microsecond s).doneValid = s.doneValid := by
  rw [microsecond_frame]
@[simp] theorem microsecond_rdata (s : State) : (microsecond s).rdata = s.rdata := by rw [microsecond_frame]
@[simp] theorem microsecond_params (s : State) : (microsecond s).params = s.params := by rw [microsecond_frame]
@[simp] theorem microsecond_inputs (s : State) : (microsecond s).inputs = s.inputs := by rw [microsecond_frame]

/-! ### Time and the line, event by event -/

/-- Anything an edge event and a microsecond keep, a half-period of the line keeps. -/
theorem halfPeriod_keeps {P : State → Prop} (edge : ∀ lvl s, P s → P (edgeEvent lvl s))
    (us : ∀ s, P s → P (microsecond s)) (lvl : Level) {s : State} (h : P s) : P (halfPeriod lvl s) :=
  elapse_keeps us s.params.tHalf (sample_keeps edge lvl h)

/-- What one of the operations on the line answers (rules R60, R62, R134). -/
theorem exec_lineOperation {i : Instr} (line : i.isHostAccess = false) (s : State) :
    (∃ start f stop, exec i s = .next (receiveFrame start f stop s)) ∨ (∃ b, exec i s = .next (slot s b)) ∨
      ∃ lvl, exec i s = .next (edgeEvent lvl s) := by
  obtain ⟨start, f, stop, rfl⟩ | ⟨b, rfl⟩ | ⟨lvl, rfl⟩ := lineOperation_cases line
  · exact .inl ⟨start, f, stop, rfl⟩
  · exact .inr (.inl ⟨b, by cases b <;> rfl⟩)
  · exact .inr (.inr ⟨lvl, exec_edgeInstr lvl s⟩)

/-- Anything an edge event and a microsecond keep, every operation on the line keeps. -/
theorem lineOperation_keeps {P : State → Prop} (edge : ∀ lvl s, P s → P (edgeEvent lvl s))
    (us : ∀ s, P s → P (microsecond s)) {i : Instr} (line : i.isHostAccess = false) {s t : State}
    (h : exec i s = .next t) (hs : P s) : P t := by
  have half : ∀ lvl s, P s → P (halfPeriod lvl s) := fun lvl _ => halfPeriod_keeps edge us lvl
  obtain ⟨start, f, stop, e⟩ | ⟨b, e⟩ | ⟨lvl, e⟩ := exec_lineOperation line s
  · rw [← Host.Outcome.next.inj (e.symm.trans h)]
    exact receiveFrame_keeps edge us start f stop hs
  · rw [← Host.Outcome.next.inj (e.symm.trans h)]
    exact half _ _ (half _ _ hs)
  · rw [← Host.Outcome.next.inj (e.symm.trans h)]
    exact edge lvl s hs

/-- `n` microseconds move `now` by `n`, a frame in flight or not (rule R22). -/
@[simp] theorem elapse_now (n : Nat) (s : State) : (elapse n s).now = s.now + BitVec.ofNat 32 n := by
  induction n generalizing s with
  | zero => simp
  | succ n ih => rw [elapse_succ, ih, microsecond_now, Nat.add_comm n 1, BitVec.ofNat_add, ← BitVec.add_assoc,
      BitVec.ofNat_eq_ofNat]

/-- `t` has the results, the latches and the host's registers as `s` has them (rule R174). -/
def sameHostSide (s t : State) : Prop :=
  t.responseStatus = s.responseStatus ∧ t.done = s.done ∧ t.doneFrame = s.doneFrame ∧ t.doneValid = s.doneValid ∧
  t.txdata = s.txdata ∧ t.txFrame = s.txFrame ∧ t.txKind = s.txKind ∧ t.lineOe = s.lineOe ∧ t.irqEn = s.irqEn ∧
  t.codecFrame = s.codecFrame ∧ t.rdata = s.rdata

/-- `t` has what no operation writes as `s` has it: the role, the parameters, the inputs still to come. -/
def sameSetting (s t : State) : Prop := t.inputs = s.inputs ∧ t.params = s.params ∧ t.isSlave = s.isSlave

/-- `t` has the transmit agent at rest as `s` has it, the line output and `cmd_ok` with it. -/
def sameRest (s t : State) : Prop :=
  t.txBusy = false ∧ t.txHp = s.txHp ∧ t.txCnt = s.txCnt ∧ t.lineOut = s.lineOut ∧ t.cmdOk = s.cmdOk

theorem lineOperation_sameSetting {i : Instr} (line : i.isHostAccess = false) {s t : State} (h : exec i s = .next t) :
    sameSetting s t :=
  lineOperation_keeps (P := sameSetting s) (fun lvl u hu => by simpa [sameSetting] using hu)
    (fun u hu => by simpa [sameSetting] using hu) line h ⟨rfl, rfl, rfl⟩

theorem lineOperation_sameHostSide {i : Instr} (line : i.isHostAccess = false) {s t : State}
    (h : exec i s = .next t) : sameHostSide s t :=
  lineOperation_keeps (P := sameHostSide s) (fun lvl u hu => by simpa [sameHostSide] using hu)
    (fun u hu => by simpa [sameHostSide] using hu) line h ⟨rfl, rfl, rfl, rfl, rfl, rfl, rfl, rfl, rfl, rfl, rfl⟩

theorem lineOperation_sameRest {i : Instr} (line : i.isHostAccess = false) {s t : State} (h : exec i s = .next t)
    (rest : s.txBusy = false) : sameRest s t :=
  lineOperation_keeps (P := sameRest s) (fun lvl u hu => by simpa [sameRest] using hu)
    (fun u hu => by
      rw [microsecond_idle hu.1]
      simpa [sameRest] using hu)
    line h ⟨rest, rfl, rfl, rfl, rfl⟩

/-! ### The commands -/

/-- `t` has what no command writes as `s` has it (rule R140). -/
def sameBesideCommands (s t : State) : Prop :=
  sameSetting s t ∧ t.now = s.now ∧ t.codecFrame = s.codecFrame ∧ t.rdata = s.rdata ∧ t.irqEn = s.irqEn ∧
  t.rxPrev = s.rxPrev ∧ t.responseTimestamp = s.responseTimestamp ∧ t.responseBitIndex = s.responseBitIndex

theorem refuse_sameBesideCommands (s : State) : sameBesideCommands s (refuse s) :=
  ⟨⟨rfl, rfl, rfl⟩, rfl, rfl, rfl, rfl, rfl, rfl, rfl⟩

theorem acceptSend_sameBesideCommands (kind : TxKind) (s : State) : sameBesideCommands s (acceptSend kind s) :=
  ⟨⟨rfl, rfl, rfl⟩, rfl, rfl, rfl, rfl, rfl, rfl, rfl⟩

theorem cmdBegin_sameBesideCommands (s : State) : sameBesideCommands s (cmdBegin s) := by
  by_cases first : s.status = .notInitialized
  · rw [cmdBegin_of_notInitialized first]
    exact ⟨⟨rfl, rfl, rfl⟩, rfl, rfl, rfl, rfl, rfl, rfl, rfl⟩
  · rw [cmdBegin_of_ne first]
    exact refuse_sameBesideCommands s

theorem cmdPoll_sameBesideCommands (s : State) : sameBesideCommands s (cmdPoll s) := by
  rw [cmdPoll, pollEffect_frame]
  exact ⟨⟨rfl, rfl, rfl⟩, rfl, rfl, rfl, rfl, rfl, rfl, rfl⟩

theorem cmdSendRequest_sameBesideCommands (s : State) : sameBesideCommands s (cmdSendRequest s) := by
  by_cases ready : s.status = .ready
  · rw [cmdSendRequest_of_ready ready]
    exact acceptSend_sameBesideCommands .request s
  · rw [cmdSendRequest_of_ne ready]
    exact refuse_sameBesideCommands s

theorem cmdSendResponse_sameBesideCommands (s : State) : sameBesideCommands s (cmdSendResponse s) := by
  by_cases early : s.status = .notInitialized
  · rw [cmdSendResponse_of_notInitialized early]
    exact refuse_sameBesideCommands s
  · rw [cmdSendResponse_of_ne early]
    exact acceptSend_sameBesideCommands .response s

theorem runCommand_sameBesideCommands {w : Word} {s t : State} (h : runCommand w s = .next t) :
    sameBesideCommands s t := by
  obtain ⟨-, rfl⟩ | ⟨-, rfl⟩ | ⟨-, rfl⟩ | ⟨-, rfl⟩ | ⟨-, f, rfl⟩ | ⟨-, rfl⟩ := runCommand_cases h
  · exact cmdBegin_sameBesideCommands s
  · exact cmdPoll_sameBesideCommands s
  · exact cmdSendRequest_sameBesideCommands s
  · exact cmdSendResponse_sameBesideCommands s
  · exact ⟨⟨rfl, rfl, rfl⟩, rfl, rfl, rfl, rfl, rfl, rfl, rfl⟩
  · exact refuse_sameBesideCommands s

/-- Settles O34: a CMD write is the run of its word, and no command writes the fields named. -/
theorem cmdWriteRunsCommand : Obligations.CmdWriteRunsCommand := by
  unfold Obligations.CmdWriteRunsCommand
  intro w s
  obtain ⟨t, h⟩ := runCommand_answers w s
  obtain ⟨-, fields⟩ := runCommand_sameBesideCommands h
  exact ⟨runCommand_eq_exec w s, t, h, fields⟩

/-! ### Every operation -/

/-- No operation faults and none is refused by the machine (rule R161). -/
theorem exec_answers (i : Instr) (s : State) : ∃ t, exec i s = .next t := by
  cases access : i.isHostAccess with
  | false =>
    obtain ⟨start, f, stop, e⟩ | ⟨b, e⟩ | ⟨lvl, e⟩ := exec_lineOperation access s
    · exact ⟨_, e⟩
    · exact ⟨_, e⟩
    · exact ⟨_, e⟩
  | true =>
    obtain ⟨w, rfl⟩ | ⟨w, rfl⟩ | ⟨index, a, rfl⟩ := hostAccess_cases access
    · rw [← runCommand_eq_exec]
      exact runCommand_answers w s
    · exact ⟨_, exec_decodeFrame w s⟩
    · cases a with
      | read => exact ⟨_, exec_read index s⟩
      | write v =>
        by_cases cmd : index = 0
        · subst cmd
          exact runCommand_answers v s
        · exact ⟨_, exec_write cmd v s⟩

theorem exec_sameSetting {i : Instr} {s t : State} (h : exec i s = .next t) : sameSetting s t := by
  cases access : i.isHostAccess with
  | false => exact lineOperation_sameSetting access h
  | true =>
    obtain ⟨w, -, run⟩ | ⟨-, only, -⟩ := exec_hostAccess_cases access h
    · exact (runCommand_sameBesideCommands run).1
    · rw [only]
      exact ⟨rfl, rfl, rfl⟩

/-- Settles O14: every kind of operation answers; on the line, what edges and microseconds leave alone is left alone. -/
theorem everyOperationAnswers : Obligations.EveryOperationAnswers := by
  unfold Obligations.EveryOperationAnswers
  intro i s
  obtain ⟨t, h⟩ := exec_answers i s
  obtain ⟨inputs, params, role⟩ := exec_sameSetting h
  refine ⟨t, h, inputs, params, role, fun line => ?_⟩
  obtain ⟨responseStatus, done, doneFrame, doneValid, txdata, txFrame, txKind, lineOe, irqEn, codecFrame, rdata⟩ :=
    lineOperation_sameHostSide line h
  exact ⟨responseStatus, done, doneFrame, doneValid, txdata, txFrame, txKind, lineOe, irqEn, codecFrame, rdata,
    lineOperation_sameRest line h⟩

end Sys2Proof.Machine
end

section

/-! ## The transmit agent, microsecond by microsecond (41_transmit.md) -/

namespace Sys2Proof.Machine

/-- A counter that counts up gains at most one: it may wrap, but never jumps ahead. -/
theorem toNat_add_one_le {n : Nat} (a : BitVec n) : (a + 1).toNat ≤ a.toNat + 1 := by
  rw [BitVec.toNat_add]
  exact (Nat.mod_le _ _).trans (Nat.add_le_add_left (Nat.mod_le 1 (2 ^ n)) _)

/-- A counter with room counts. -/
theorem toNat_add_one_of_lt {n : Nat} {a : BitVec n} (room : a.toNat + 1 < 2 ^ n) : (a + 1).toNat = a.toNat + 1 := by
  have one : (1 : BitVec n).toNat = 1 := Nat.mod_eq_of_lt (Nat.lt_of_le_of_lt (Nat.le_add_left 1 _) room)
  rw [BitVec.toNat_add, one, Nat.mod_eq_of_lt room]

/-! ### The level function -/

theorem slotBit_data (f : Word) {k : Nat} (first : 1 ≤ k) (last : k ≤ 32) : slotBit f k = f.getLsbD (32 - k) := by
  have framing : ¬ (k = 0 ∨ k = 33) := by omega
  rw [slotBit, if_neg framing, if_pos last]

theorem hpLevel_first_half (f : Word) (k : Nat) : hpLevel f (2 * k) = halfLevel (slotBit f k) 0 := by
  rw [hpLevel, Nat.mul_div_cancel_left k Nat.two_pos, Nat.mul_mod_right]

theorem hpLevel_second_half (f : Word) (k : Nat) : hpLevel f (2 * k + 1) = halfLevel (slotBit f k) 1 := by
  have slot : (2 * k + 1) / 2 = k := by omega
  have half : (2 * k + 1) % 2 = 1 := by omega
  rw [hpLevel, slot, half]

theorem halfLevel_zero (b : Bool) : halfLevel b 0 = if b then .active else .idle := by
  cases b <;> rfl

theorem halfLevel_one (b : Bool) : halfLevel b 1 = if b then .idle else .active := by
  cases b <;> rfl

/-- Settles O47: the two halves of the slot's bit, the start and stop slots evaluated. -/
theorem levelFunction : Obligations.LevelFunction := by
  unfold Obligations.LevelFunction
  refine fun f => ⟨rfl, rfl, rfl, rfl, fun k first last => ⟨?_, ?_⟩⟩
  · rw [hpLevel_first_half, slotBit_data f first last, halfLevel_zero]
  · rw [hpLevel_second_half, slotBit_data f first last, halfLevel_one]

/-! ### One microsecond of a frame -/

theorem microsecond_inside {s : State} (busy : s.txBusy = true) (inside : s.txCnt.toNat + 1 < s.params.tHalf) :
    microsecond s = { s with now := s.now + 1, txCnt := s.txCnt + 1 } := by
  rw [microsecond_busy busy, txStep_inside (s := tick s) inside]
  rfl

theorem microsecond_boundary {s : State} (busy : s.txBusy = true) (past : s.params.tHalf ≤ s.txCnt.toNat + 1)
    (more : s.txHp.toNat < s.params.lastHp) :
    microsecond s =
      { s with now := s.now + 1, txCnt := 0, txHp := s.txHp + 1, lineOut := hpLevel s.txFrame (s.txHp.toNat + 1) } := by
  rw [microsecond_busy busy, txStep_boundary (s := tick s) past more]
  rfl

theorem microsecond_frameEnds {s : State} (busy : s.txBusy = true) (ends : s.frameEnds) :
    microsecond s = finalStep (tick s) := by
  rw [microsecond_busy busy, txStep_final (s := tick s) ends.1 ends.2]

/-- A request arms the receiver (rule R117). -/
theorem finalStep_of_request {s : State} (kind : s.txKind = .request) :
    finalStep s = { endTransmission s with status := .responseWaiting, responseTimestamp := s.now } := by
  rw [finalStep, kind]

/-- A response leaves READY (rule R117). -/
theorem finalStep_of_response {s : State} (kind : s.txKind = .response) :
    finalStep s = { endTransmission s with status := .ready } := by
  rw [finalStep, kind]

/-- Everything a microsecond can do (rules R22, R113, R117). -/
theorem microsecond_cases (s : State) :
    (s.txBusy = false ∧ microsecond s = tick s) ∨
    (s.txBusy = true ∧ s.txCnt.toNat + 1 < s.params.tHalf ∧
      microsecond s = { s with now := s.now + 1, txCnt := s.txCnt + 1 }) ∨
    (s.txBusy = true ∧ s.params.tHalf ≤ s.txCnt.toNat + 1 ∧ s.txHp.toNat < s.params.lastHp ∧
      microsecond s =
        { s with
          now := s.now + 1, txCnt := 0, txHp := s.txHp + 1, lineOut := hpLevel s.txFrame (s.txHp.toNat + 1) }) ∨
    (s.txBusy = true ∧ s.frameEnds ∧ microsecond s = finalStep (tick s)) := by
  rcases Bool.eq_false_or_eq_true s.txBusy with busy | idle
  · by_cases inside : s.txCnt.toNat + 1 < s.params.tHalf
    · exact .inr (.inl ⟨busy, inside, microsecond_inside busy inside⟩)
    · have past := Nat.not_lt.mp inside
      by_cases more : s.txHp.toNat < s.params.lastHp
      · exact .inr (.inr (.inl ⟨busy, past, more, microsecond_boundary busy past more⟩))
      · have ends : s.frameEnds := ⟨past, Nat.not_lt.mp more⟩
        exact .inr (.inr (.inr ⟨busy, ends, microsecond_frameEnds busy ends⟩))
  · exact .inl ⟨idle, microsecond_idle idle⟩

/-- Settles O48: at rest the tick, in a frame the three branches of the transmit agent's step. -/
theorem transmitAgentStep : Obligations.TransmitAgentStep := by
  unfold Obligations.TransmitAgentStep
  refine ⟨rfl, rfl, fun s => ⟨microsecond_idle, fun busy => ⟨microsecond_inside busy, microsecond_boundary busy, ?_⟩⟩⟩
  intro past last
  rw [microsecond_frameEnds busy ⟨past, last⟩]
  cases kind : s.txKind with
  | request =>
    rw [finalStep_of_request (s := tick s) kind]
    simp [endTransmission, tick, kind]
  | response =>
    rw [finalStep_of_response (s := tick s) kind]
    simp [endTransmission, tick, kind]

/-- Settles O49: both sends answer the acceptance step, whose waveform is `inFlight`. -/
theorem waveformClosedForm : Obligations.WaveformClosedForm := by
  unfold Obligations.WaveformClosedForm
  intro i ign s t sent fits h
  obtain ⟨kind, accepted⟩ : ∃ kind, exec i s = .next (acceptSend kind s) := by
    obtain ⟨rfl, ready⟩ | ⟨rfl, begun⟩ := sent
    · exact ⟨.request, exec_sendRequest_of_ready ready ign⟩
    · exact ⟨.response, exec_sendResponse_of_ne begun ign⟩
  rw [← Host.Outcome.next.inj (accepted.symm.trans h)]
  exact ⟨rfl, rfl, rfl, fun k j hk hj => iterate_microsecond_acceptSend fits kind hk hj⟩

end Sys2Proof.Machine
end

section

/-! ## The receiver, edge by edge and slot by slot (42_receive.md) -/

namespace Sys2Proof.Machine

/-! ### The branches of a row, as what the edge event does -/

theorem edgeEvent_startBit_of_middle {s : State} {lvl : Level} (h : s.status = .responseStartBit)
    (middle : s.sinceEvent < s.params.tSample ∧ lvl = .idle) :
    edgeEvent lvl s =
      { s with rxPrev := lvl, status := .responseReceiving, responseBitIndex := 0, responseTimestamp := s.now } :=
  (edgeEvent_startBit h lvl).trans (edgeStartBit_of_middle (s := { s with rxPrev := lvl }) middle)

theorem edgeEvent_startBit_of_not_middle {s : State} {lvl : Level} (h : s.status = .responseStartBit)
    (notMiddle : ¬ (s.sinceEvent < s.params.tSample ∧ lvl = .idle)) :
    edgeEvent lvl s = { s with rxPrev := lvl, status := .responseInvalid, responseTimestamp := s.now } :=
  (edgeEvent_startBit h lvl).trans (edgeStartBit_of_not_middle (s := { s with rxPrev := lvl }) notMiddle)

theorem edgeEvent_receiving_of_lt {s : State} (lvl : Level) (h : s.status = .responseReceiving)
    (late : s.params.tSample < s.sinceEvent) (more : s.responseBitIndex.toNat < 32) :
    edgeEvent lvl s =
      { s with
        rxPrev := lvl
        response := shiftIn s.response lvl
        responseBitIndex := s.responseBitIndex + 1
        responseTimestamp := s.now } :=
  (edgeEvent_receiving h lvl).trans (edgeReceiving_of_lt (s := { s with rxPrev := lvl }) late more)

theorem edgeEvent_receiving_of_not_lt {s : State} (lvl : Level) (h : s.status = .responseReceiving)
    (late : s.params.tSample < s.sinceEvent) (full : ¬ s.responseBitIndex.toNat < 32) :
    edgeEvent lvl s = { s with rxPrev := lvl, status := .responseReady, responseTimestamp := s.now } :=
  (edgeEvent_receiving h lvl).trans (edgeReceiving_of_not_lt (s := { s with rxPrev := lvl }) late full)

/-- A slot-boundary edge (rule R133). -/
theorem edgeEvent_receiving_of_early {s : State} (lvl : Level) (h : s.status = .responseReceiving)
    (early : s.sinceEvent ≤ s.params.tSample) : edgeEvent lvl s = { s with rxPrev := lvl } :=
  (edgeEvent_receiving h lvl).trans (if_neg (Nat.not_lt.mpr early))

/-- Settles O54: the RESPONSE_RECEIVING row before its threshold. -/
theorem earlyEdgeIgnored : Obligations.EarlyEdgeIgnored := by
  unfold Obligations.EarlyEdgeIgnored
  intro s lvl receiving early
  rw [exec_edgeInstr, edgeEvent_receiving_of_early lvl receiving early]

/-- At a slot's boundary the detector takes the level, whether or not that is an edge. -/
theorem sample_receiving_of_early {s : State} (lvl : Level) (h : s.status = .responseReceiving)
    (early : s.sinceEvent ≤ s.params.tSample) : sample lvl s = { s with rxPrev := lvl } := by
  by_cases same : s.rxPrev = lvl
  · rw [sample_same same, ← same]
  · rw [sample_edge same, edgeEvent_receiving_of_early lvl h early]

/-! ### The age of the last event while time passes -/

/-- `n` microseconds after an event that was `m` microseconds old. -/
theorem elapsed_add {a b : Word} {m : Nat} (n : Nat) (age : (a - b).toNat = m) (fits : m + n < 2 ^ 32) :
    (a + BitVec.ofNat 32 n - b).toNat = m + n := by
  have e : a + BitVec.ofNat 32 n - b = (a - b) + BitVec.ofNat 32 n := by
    rw [BitVec.sub_eq_add_neg, BitVec.sub_eq_add_neg, BitVec.add_assoc, BitVec.add_assoc,
      BitVec.add_comm (BitVec.ofNat 32 n)]
  rw [e, BitVec.toNat_add, BitVec.toNat_ofNat, age, Nat.add_mod_mod, Nat.mod_eq_of_lt fits]

/-- `n` microseconds after an event of this very moment. -/
theorem elapsed_self_add (a : Word) {n : Nat} (fits : n < 2 ^ 32) : (a + BitVec.ofNat 32 n - a).toNat = n := by
  have now : (a - a).toNat = 0 := by rw [BitVec.sub_self]; rfl
  rw [elapsed_add n now (by omega), Nat.zero_add]

/-- The age of an event does not change when both times are moved on. -/
theorem elapsed_both_later {a b : Word} {n : Nat} (age : a = b + BitVec.ofNat 32 n) (x : Word) (fits : n < 2 ^ 32) :
    (a + x - (b + x)).toNat = n := by
  rw [age, add_right_comm]
  exact elapsed_self_add _ fits

/-! ### One slot -/

/-- What rules R6 and R7 ask of the thresholds, as numbers. -/
theorem reads_bounds {p : Config.Params} (reads : p.reads) :
    p.tHalf ≤ p.tSample ∧ p.tHalf < p.tSample ∧ p.tSample < p.tHalf + p.tHalf ∧ p.tHalf ≤ 512 := by
  obtain ⟨⟨-, fits, -⟩, -, above, below⟩ := reads
  omega

/-- A half-period that starts at a slot's boundary: the level is sensed and nothing else (rule R133). -/
theorem halfPeriod_boundary {s : State} (lvl : Level) (h : s.status = .responseReceiving) (idle : s.txBusy = false)
    (early : s.sinceEvent ≤ s.params.tSample) :
    halfPeriod lvl s = { s with rxPrev := lvl, now := s.now + BitVec.ofNat 32 s.params.tHalf } := by
  rw [halfPeriod, sample_receiving_of_early lvl h early, elapse_idle (by exact idle)]

/-- A half-period that starts at a data slot's middle: its level is the sample (rule R129). -/
theorem halfPeriod_middle {s : State} (lvl : Level) (h : s.status = .responseReceiving) (idle : s.txBusy = false)
    (edge : s.rxPrev ≠ lvl) (late : s.params.tSample < s.sinceEvent) (more : s.responseBitIndex.toNat < 32) :
    halfPeriod lvl s =
      { s with
        rxPrev := lvl
        response := shiftIn s.response lvl
        responseBitIndex := s.responseBitIndex + 1
        responseTimestamp := s.now
        now := s.now + BitVec.ofNat 32 s.params.tHalf } := by
  rw [halfPeriod, sample_edge edge, edgeEvent_receiving_of_lt lvl h late more, elapse_idle (by exact idle)]

theorem halfLevel_one_ne_halfLevel_zero (b : Bool) : halfLevel b 0 ≠ halfLevel b 1 := by
  cases b <;> decide

/-- The inverted level at the middle of a slot is the slot's bit (rule R129). -/
theorem shiftIn_halfLevel_one (w : Word) (b : Bool) : shiftIn w (halfLevel b 1) = w <<< 1 ||| (if b then 1 else 0) := by
  cases b <;> rfl

/-- The middle of a slot whose boundary lies `T_HALF` after the last sample is past the threshold. -/
theorem late_at_middle {s : State} (reads : s.params.reads) (age : s.sinceEvent = s.params.tHalf) :
    s.params.tSample < (s.now + BitVec.ofNat 32 s.params.tHalf - s.responseTimestamp).toNat := by
  obtain ⟨-, -, below, fits⟩ := reads_bounds reads
  rw [elapsed_add s.params.tHalf age (by omega)]
  exact below

/-- One data slot, as rule R135 has it. -/
theorem slot_receiving {s : State} (b : Bool) (reads : s.params.reads) (h : s.status = .responseReceiving)
    (idle : s.txBusy = false) (more : s.responseBitIndex.toNat < 32) (age : s.sinceEvent = s.params.tHalf) :
    slot s b =
      { s with
        rxPrev := halfLevel b 1
        response := s.response <<< 1 ||| (if b then 1 else 0)
        responseBitIndex := s.responseBitIndex + 1
        responseTimestamp := s.now + BitVec.ofNat 32 s.params.tHalf
        now := s.now + BitVec.ofNat 32 s.params.tBit } := by
  obtain ⟨early, -⟩ := reads_bounds reads
  rw [slot, halfPeriod_boundary _ h idle (age ▸ early), halfPeriod_middle]
  · simp only [shiftIn_halfLevel_one, Config.Params.tBit, Nat.two_mul, BitVec.ofNat_add, BitVec.add_assoc]
  · exact h
  · exact idle
  · exact halfLevel_one_ne_halfLevel_zero b
  · exact late_at_middle reads age
  · exact more

/-- Settles O57: the boundary's level is only sensed, the middle's edge is the sample. -/
theorem slotShiftsInOneBit : Obligations.SlotShiftsInOneBit := by
  unfold Obligations.SlotShiftsInOneBit
  intro s b reads receiving idle more age
  have symbol : exec (symbolInstr b) s = .next (slot s b) := by cases b <;> rfl
  rw [symbol, slot_receiving b reads receiving idle more age, halfLevel_one]

/-! ### A whole frame -/

/-- The accumulator after one bit (rule R129). -/
def shiftInBit (w : Word) (b : Bool) : Word := w <<< 1 ||| (if b then 1 else 0)

theorem getLsbD_shiftInBit_zero (w : Word) (b : Bool) : (shiftInBit w b).getLsbD 0 = b := by
  cases b <;> simp [shiftInBit]

theorem getLsbD_shiftInBit_succ (w : Word) (b : Bool) {i : Nat} (hi : i + 1 < 32) :
    (shiftInBit w b).getLsbD (i + 1) = w.getLsbD i := by
  have low : (if b then (1 : Word) else 0).getLsbD (i + 1) = false := by cases b <;> simp
  rw [shiftInBit, BitVec.getLsbD_or, low, Bool.or_false]
  simp [hi, BitVec.getLsbD_eq_getElem (Nat.lt_of_succ_lt hi)]

/-- The highest `n` bits of a frame, in the order of their slots (rule R62). -/
def firstBits (f : Word) (n : Nat) : List Bool := (List.range n).map fun k => f.getLsbD (31 - k)

theorem firstBits_succ (f : Word) (n : Nat) : firstBits f (n + 1) = firstBits f n ++ [f.getLsbD (31 - n)] := by
  simp [firstBits, List.range_succ]

@[simp] theorem length_firstBits (f : Word) (n : Nat) : (firstBits f n).length = n := by
  simp [firstBits]

theorem getLsbD_foldl_firstBits (f w : Word) {n i : Nat} (hn : n ≤ 32) (hi : i < n) :
    ((firstBits f n).foldl shiftInBit w).getLsbD i = f.getLsbD (32 - n + i) := by
  induction n generalizing i with
  | zero => omega
  | succ n ih =>
    rw [firstBits_succ, List.foldl_append, List.foldl_cons, List.foldl_nil]
    cases i with
    | zero =>
      have last : 31 - n = 32 - (n + 1) + 0 := by omega
      rw [getLsbD_shiftInBit_zero, last]
    | succ i =>
      have earlier : 32 - n + i = 32 - (n + 1) + (i + 1) := by omega
      rw [getLsbD_shiftInBit_succ _ _ (by omega), ih (by omega) (by omega), earlier]

/-- Thirty-two bits push out whatever the accumulator held. -/
theorem foldl_firstBits (f w : Word) : (firstBits f 32).foldl shiftInBit w = f := by
  apply BitVec.eq_of_getLsbD_eq
  intro i hi
  rw [getLsbD_foldl_firstBits f w le_rfl hi, Nat.sub_self, Nat.zero_add]

/-- The data slots, from one whose sample lies `T_HALF` ahead; what the last one leaves on the line is not needed
(rule R135). -/
theorem foldl_slot_receiving (bits : List Bool) {s : State} (reads : s.params.reads)
    (h : s.status = .responseReceiving) (idle : s.txBusy = false) (room : s.responseBitIndex.toNat + bits.length ≤ 32)
    (age : s.now = s.responseTimestamp + BitVec.ofNat 32 s.params.tHalf) :
    ∃ lvl, bits.foldl slot s =
      { s with
        rxPrev := lvl
        response := bits.foldl shiftInBit s.response
        responseBitIndex := s.responseBitIndex + BitVec.ofNat 6 bits.length
        responseTimestamp := s.responseTimestamp + BitVec.ofNat 32 (bits.length * s.params.tBit)
        now := s.now + BitVec.ofNat 32 (bits.length * s.params.tBit) } := by
  induction bits using List.reverseRecOn with
  | nil => exact ⟨s.rxPrev, by simp⟩
  | append_singleton bits b ih =>
    rw [List.length_append, List.length_singleton] at room
    obtain ⟨lvl, e⟩ := ih (by omega)
    obtain ⟨-, -, -, fits⟩ := reads_bounds reads
    refine ⟨halfLevel b 1, ?_⟩
    rw [List.foldl_append, List.foldl_cons, List.foldl_nil, e, slot_receiving]
    · simp only [age, List.foldl_append, List.foldl_cons, List.foldl_nil, List.length_append, List.length_singleton,
        shiftInBit, Nat.add_mul, Nat.one_mul, Config.Params.tBit, Nat.two_mul, BitVec.ofNat_add]
      congr 1 <;> ac_rfl
    · exact reads
    · exact h
    · exact idle
    · change (s.responseBitIndex + BitVec.ofNat 6 bits.length).toNat < 32
      rw [BitVec.toNat_add, BitVec.toNat_ofNat]
      omega
    · exact elapsed_both_later age _ (by omega)

/-- Whoever waits for a frame takes the first edge to ACTIVE as its start (rules R126, R131). -/
theorem edgeEvent_active_of_listening {s : State}
    (listening : s.status = .responseWaiting ∨ (s.status = .ready ∧ s.isSlave = true)) :
    edgeEvent .active s =
      { s with rxPrev := .active, status := .responseStartBit, responseTimestamp := s.now } := by
  obtain waiting | ⟨ready, slave⟩ := listening
  · exact edgeEvent_waiting waiting .active
  · exact edgeEvent_slave_start ready slave

/-- A receiver at the end of a start slot: armed for the first data bit (rule R127). -/
def afterStartSlot (s : State) : State :=
  { s with
    status := .responseReceiving
    rxPrev := .idle
    responseBitIndex := 0
    responseTimestamp := s.now + BitVec.ofNat 32 s.params.tHalf
    now := s.now + BitVec.ofNat 32 s.params.tBit }

/-- The start slot on an idle line (rules R126, R127, R131). -/
theorem slot_start {s : State} (reads : s.params.reads)
    (listening : s.status = .responseWaiting ∨ (s.status = .ready ∧ s.isSlave = true)) (idle : s.txBusy = false)
    (quiet : s.rxPrev = .idle) : slot s true = afterStartSlot s := by
  obtain ⟨-, above, -, fits⟩ := reads_bounds reads
  have first : halfPeriod .active s =
      { s with
        status := .responseStartBit
        rxPrev := .active
        responseTimestamp := s.now
        now := s.now + BitVec.ofNat 32 s.params.tHalf } := by
    rw [halfPeriod, sample_edge (by rw [quiet]; decide), edgeEvent_active_of_listening listening,
      elapse_idle (by exact idle)]
  have age : (s.now + BitVec.ofNat 32 s.params.tHalf - s.now).toNat = s.params.tHalf := elapsed_self_add _ (by omega)
  change halfPeriod .idle (halfPeriod .active s) = _
  rw [first, halfPeriod, sample_edge (by exact Level.noConfusion), edgeEvent_startBit_of_middle]
  · rw [elapse_idle (by exact idle)]
    simp only [afterStartSlot, Config.Params.tBit, Nat.two_mul, BitVec.ofNat_add, BitVec.add_assoc]
  · rfl
  · exact ⟨age.trans_lt above, rfl⟩

/-- The stop slot, whatever it carries (rules R130, R198). -/
theorem slot_stop {s : State} (stop : Bool) (reads : s.params.reads) (h : s.status = .responseReceiving)
    (idle : s.txBusy = false) (full : ¬ s.responseBitIndex.toNat < 32)
    (age : s.sinceEvent = s.params.tHalf) :
    slot s stop =
      { s with
        status := .responseReady
        rxPrev := halfLevel stop 1
        responseTimestamp := s.now + BitVec.ofNat 32 s.params.tHalf
        now := s.now + BitVec.ofNat 32 s.params.tBit } := by
  obtain ⟨early, -⟩ := reads_bounds reads
  rw [slot, halfPeriod_boundary _ h idle (age ▸ early), halfPeriod, sample_edge (halfLevel_one_ne_halfLevel_zero stop),
    edgeEvent_receiving_of_not_lt]
  · rw [elapse_idle (by exact idle)]
    simp only [Config.Params.tBit, Nat.two_mul, BitVec.ofNat_add, BitVec.add_assoc]
  · exact h
  · exact late_at_middle reads age
  · exact full

/-- A whole frame from its first edge on (rules R135, R198). -/
theorem receiveFrame_listening (f : Word) (stop : Bool) {s : State} (reads : s.params.reads)
    (listening : s.status = .responseWaiting ∨ (s.status = .ready ∧ s.isSlave = true)) (idle : s.txBusy = false)
    (quiet : s.rxPrev = .idle) :
    receiveFrame true f stop s =
      { s with
        status := .responseReady
        response := f
        responseBitIndex := 32
        responseTimestamp := s.now + BitVec.ofNat 32 (67 * s.params.tHalf)
        rxPrev := halfLevel stop 1
        now := s.now + BitVec.ofNat 32 s.params.tFrame } := by
  obtain ⟨-, -, -, fits⟩ := reads_bounds reads
  have order : receiveFrame true f stop s = slot ((firstBits f 32).foldl slot (slot s true)) stop := by
    rw [receiveFrame, wireBits, List.foldl_append]
    simp only [List.foldl_cons, List.foldl_nil, firstBits]
  have age : (afterStartSlot s).now = (afterStartSlot s).responseTimestamp + BitVec.ofNat 32 s.params.tHalf := by
    simp only [afterStartSlot, Config.Params.tBit, Nat.two_mul, BitVec.ofNat_add, BitVec.add_assoc]
  obtain ⟨lvl, data⟩ := foldl_slot_receiving (firstBits f 32) (s := afterStartSlot s) reads rfl idle
    (Nat.le_of_eq (by rw [length_firstBits]; rfl)) age
  rw [order, slot_start reads listening idle quiet, data, slot_stop]
  · have stopMiddle : s.params.tBit + 32 * s.params.tBit + s.params.tHalf = 67 * s.params.tHalf := by
      unfold Config.Params.tBit; omega
    have frame : s.params.tBit + 32 * s.params.tBit + s.params.tBit = s.params.tFrame := by
      rw [Config.Params.tFrame, reads.2.1]; omega
    simp only [← stopMiddle, ← frame, foldl_firstBits, length_firstBits, afterStartSlot, BitVec.ofNat_add,
      BitVec.add_assoc]
    rfl
  · exact reads
  · rfl
  · exact idle
  · rw [length_firstBits]
    change ¬ (0 + 32 : BitVec 6).toNat < 32
    decide
  · exact elapsed_both_later age _ (by omega)

/-- Settles O58: the start slot, 32 data slots and the stop slot, on either listener. -/
theorem receiverReadsEveryFrame : Obligations.ReceiverReadsEveryFrame := by
  unfold Obligations.ReceiverReadsEveryFrame
  refine ⟨rfl, fun f stop s reads listening idle quiet => ?_⟩
  rw [← halfLevel_one]
  exact congrArg Host.Outcome.next (receiveFrame_listening f stop reads listening idle quiet)

end Sys2Proof.Machine
end

section

/-! ## The invariant and the status graph, agent by agent (10_state.md §4, 43_session.md §7) -/

namespace Sys2Proof.Machine

/-! ### The invariant -/

theorem resetWith_inv {p : Config.Params} (half : 0 < p.tHalf) (strap : Bool) : (State.resetWith p strap).Inv where
  bitIndex := Nat.zero_le 32
  busy := by simp
  halfPeriod := Nat.zero_le _
  count := half
  quiet _ := rfl
  driven := by simp

/-- Settles O12: the reset state meets each clause, the defaults being those of rules R6 and R7. -/
theorem invariantAtReset : Obligations.InvariantAtReset := by
  unfold Obligations.InvariantAtReset Config.Params.reads Config.Params.fits
  exact ⟨fun p strap half => resetWith_inv half strap, fun strap => ⟨resetWith_inv (by decide) strap, rfl⟩, by decide⟩

/-- What the invariant says of the transmit agent and the line is about these. -/
def State.transmitPart (s : State) : Bool × BitVec 7 × BitVec 9 × Level × Bool × Config.Params :=
  (s.txBusy, s.txHp, s.txCnt, s.lineOut, s.lineOe, s.params)

/-- A step that leaves the transmit agent alone, and REQUEST_SENDING and NOT_INITIALIZED what they were, keeps the
invariant. -/
theorem State.Inv.move {s t : State} (inv : s.Inv) (index : t.responseBitIndex.toNat ≤ 32)
    (transmit : t.transmitPart = s.transmitPart) (sending : t.status = .requestSending ↔ s.status = .requestSending)
    (begun : t.status = .notInitialized ↔ s.status = .notInitialized) : t.Inv := by
  simp only [State.transmitPart, Prod.mk.injEq] at transmit
  obtain ⟨busy, hp, cnt, out, oe, params⟩ := transmit
  constructor
  · exact index
  · rw [busy, sending]; exact inv.busy
  · rw [hp, params]; exact inv.halfPeriod
  · rw [cnt, params]; exact inv.count
  · rw [busy, out]; exact inv.quiet
  · rw [oe, begun]; exact inv.driven

/-- A step that writes nothing the invariant speaks of keeps it. -/
theorem State.Inv.congr {s t : State} (inv : s.Inv) (index : t.responseBitIndex = s.responseBitIndex)
    (transmit : t.transmitPart = s.transmitPart) (status : t.status = s.status) : t.Inv :=
  inv.move (by rw [index]; exact inv.bitIndex) transmit (by rw [status]) (by rw [status])

/-- A move between two statuses that are neither REQUEST_SENDING nor NOT_INITIALIZED keeps the invariant. -/
theorem State.Inv.move_within {s t : State} (inv : s.Inv) (index : t.responseBitIndex.toNat ≤ 32)
    (transmit : t.transmitPart = s.transmitPart)
    (old : s.status ≠ .requestSending ∧ s.status ≠ .notInitialized)
    (new : t.status ≠ .requestSending ∧ t.status ≠ .notInitialized) : t.Inv :=
  inv.move index transmit (iff_of_false new.1 old.1) (iff_of_false new.2 old.2)

theorem State.Inv.status_ne_requestSending {s : State} (inv : s.Inv) (free : s.txBusy = false) :
    s.status ≠ .requestSending :=
  mt inv.busy.mpr (by simp [free])

theorem State.Inv.txBusy_eq_false {s : State} (inv : s.Inv) (h : s.status ≠ .requestSending) : s.txBusy = false :=
  Bool.eq_false_of_not_eq_true (mt inv.busy.mp h)

theorem State.Inv.lineOe_of_begun {s : State} (inv : s.Inv) (begun : s.status ≠ .notInitialized) : s.lineOe = true :=
  Bool.eq_true_of_not_eq_false (mt inv.driven.mp begun)

theorem Status.ne_of_inExchange {q : Status} (h : q.inExchange = true) :
    q ≠ .requestSending ∧ q ≠ .notInitialized := by
  constructor <;> rintro rfl <;> cases h

/-! ### The edge agent -/

/-- Everything an edge does to `status`; the last case is out of reach of the invariant (rules R126 to R133). -/
theorem edgeEvent_status_cases (lvl : Level) (s : State) :
    (edgeEvent lvl s).status = s.status ∨ StatusMove (.edge lvl) s (edgeEvent lvl s).status ∨
    (32 < s.responseBitIndex.toNat ∧ s.status = .responseReceiving ∧ (edgeEvent lvl s).status = .responseReady) := by
  cases h : s.status with
  | notInitialized | requestSending | responseReady | responseInvalid | delay =>
    rw [edgeEvent_deaf lvl (by simp [h])]
    exact .inl h
  | ready =>
    by_cases start : s.isSlave = true ∧ lvl = .active
    · obtain ⟨slave, rfl⟩ := start
      rw [edgeEvent_slave_start h slave]
      exact .inr (.inl (.slaveStart s h slave))
    · have ignored : s.isSlave = false ∨ lvl = .idle := by
        cases lvl with
        | active => exact .inl (Bool.eq_false_of_not_eq_true fun slave => start ⟨slave, rfl⟩)
        | idle => exact .inr rfl
      rw [edgeEvent_ready_ignores h ignored]
      exact .inl h
  | responseWaiting =>
    rw [edgeEvent_waiting h]
    cases lvl with
    | active => exact .inr (.inl (.start s h))
    | idle => exact .inr (.inl (.malformed s h))
  | responseStartBit =>
    by_cases middle : s.sinceEvent < s.params.tSample ∧ lvl = .idle
    · rw [edgeEvent_startBit_of_middle h middle]
      obtain ⟨soon, rfl⟩ := middle
      exact .inr (.inl (.startMiddle s h soon))
    · rw [edgeEvent_startBit_of_not_middle h middle]
      exact .inr (.inl (.startRejected lvl s h middle))
  | responseReceiving =>
    by_cases late : s.params.tSample < s.sinceEvent
    · by_cases more : s.responseBitIndex.toNat < 32
      · rw [edgeEvent_receiving_of_lt lvl h late more]
        exact .inl h
      · rw [edgeEvent_receiving_of_not_lt lvl h late more]
        rcases Nat.eq_or_lt_of_not_lt more with last | beyond
        · exact .inr (.inl (.stop lvl s h late last))
        · exact .inr (.inr ⟨beyond, rfl, rfl⟩)
    · rw [edgeEvent_receiving_of_early lvl h (Nat.not_lt.mp late)]
      exact .inl h

/-- The edge agent's rows lead into the exchange, from inside it or from a slave's READY on an edge to ACTIVE. -/
theorem StatusMove.edge_inExchange {lvl : Level} {s : State} {q : Status} (m : StatusMove (.edge lvl) s q) :
    q.inExchange = true ∧
      (s.status.inExchange = true ∨ (s.status = .ready ∧ s.isSlave = true ∧ lvl = .active)) := by
  cases m with
  | slaveStart _ h r => exact ⟨rfl, .inr ⟨h, r, rfl⟩⟩
  | start _ h | malformed _ h | startMiddle _ h | startRejected _ _ h | bit _ _ h | stop _ _ h =>
    exact ⟨rfl, .inl (by rw [h]; rfl)⟩

/-- An edge leaves `status` alone or moves it into the exchange, with or without the invariant. -/
theorem edgeEvent_status (lvl : Level) (s : State) :
    (edgeEvent lvl s).status = s.status ∨ ((edgeEvent lvl s).status.inExchange = true ∧
      (s.status.inExchange = true ∨ (s.status = .ready ∧ s.isSlave = true ∧ lvl = .active))) := by
  obtain same | move | ⟨-, old, new⟩ := edgeEvent_status_cases lvl s
  · exact .inl same
  · exact .inr move.edge_inExchange
  · exact .inr (by rw [old, new]; exact ⟨rfl, .inl rfl⟩)

/-- Where a row of the edge agent applies it is taken. -/
theorem edgeEvent_status_of_statusMove {lvl : Level} {s : State} {q : Status} (m : StatusMove (.edge lvl) s q) :
    (edgeEvent lvl s).status = q := by
  cases m with
  | slaveStart _ h r => rw [edgeEvent_slave_start h r]; rfl
  | start _ h => rw [edgeEvent_waiting h]; rfl
  | malformed _ h => rw [edgeEvent_waiting h]; rfl
  | startMiddle _ h e => rw [edgeEvent_startBit_of_middle h ⟨e, rfl⟩]
  | startRejected _ _ h e => rw [edgeEvent_startBit_of_not_middle h e]
  | bit _ _ h e i => rw [edgeEvent_receiving_of_lt lvl h e i]; exact h
  | stop _ _ h e i => rw [edgeEvent_receiving_of_not_lt lvl h e (Nat.not_lt.mpr (Nat.le_of_eq i.symm))]

theorem edgeEvent_bitIndex_le (lvl : Level) {s : State} (index : s.responseBitIndex.toNat ≤ 32) :
    (edgeEvent lvl s).responseBitIndex.toNat ≤ 32 := by
  unfold edgeEvent edgeHandler
  split
  · exact index
  · unfold edgeStartBit
    split
    · exact Nat.zero_le 32
    · exact index
  · unfold edgeReceiving
    split
    · split
      · rename_i more
        exact (toNat_add_one_le _).trans more
      · exact index
    · exact index
  all_goals exact index

theorem edgeEvent_inv (lvl : Level) {s : State} (inv : s.Inv) : (edgeEvent lvl s).Inv := by
  have index := edgeEvent_bitIndex_le lvl inv.bitIndex
  have transmit : (edgeEvent lvl s).transmitPart = s.transmitPart := by simp [State.transmitPart]
  obtain same | ⟨new, old | ⟨ready, -⟩⟩ := edgeEvent_status lvl s
  · exact inv.move index transmit (by rw [same]) (by rw [same])
  · exact inv.move_within index transmit (Status.ne_of_inExchange old) (Status.ne_of_inExchange new)
  · exact inv.move_within index transmit (by simp [ready]) (Status.ne_of_inExchange new)

/-! ### The transmit agent -/

theorem finalStep_inv {s : State} (inv : s.Inv) (busy : s.txBusy = true) : (finalStep s).Inv := by
  have driven : s.lineOe = true := inv.lineOe_of_txBusy busy
  have half : 0 < s.params.tHalf := Nat.zero_lt_of_lt inv.count
  cases kind : s.txKind with
  | request =>
    rw [finalStep_of_request kind]
    exact ⟨inv.bitIndex, by simp [endTransmission], Nat.zero_le _, half, fun _ => rfl,
      by simp [endTransmission, driven]⟩
  | response =>
    rw [finalStep_of_response kind]
    exact ⟨inv.bitIndex, by simp [endTransmission], Nat.zero_le _, half, fun _ => rfl,
      by simp [endTransmission, driven]⟩

theorem tick_inv {s : State} (inv : s.Inv) : (tick s).Inv := inv.congr rfl rfl rfl

theorem microsecond_inv {s : State} (inv : s.Inv) : (microsecond s).Inv := by
  obtain ⟨-, e⟩ | ⟨busy, inside, e⟩ | ⟨busy, -, more, e⟩ | ⟨busy, -, e⟩ := microsecond_cases s <;> rw [e]
  · exact tick_inv inv
  · have held : s.txBusy = false → s.lineOut = .idle := by simp [busy]
    exact ⟨inv.bitIndex, inv.busy, inv.halfPeriod, (toNat_add_one_le _).trans_lt inside, held, inv.driven⟩
  · exact ⟨inv.bitIndex, inv.busy, (toNat_add_one_le _).trans more, Nat.zero_lt_of_lt inv.count, by simp [busy],
      inv.driven⟩
  · exact finalStep_inv (tick_inv inv) busy

/-- The transmit agent's rows are those of the final step (rules R117, R158). -/
theorem microsecond_moves {s : State} (inv : s.Inv) :
    (microsecond s).status = s.status ∨ StatusMove .transmit s (microsecond s).status := by
  obtain ⟨-, e⟩ | ⟨-, -, e⟩ | ⟨-, -, -, e⟩ | ⟨busy, ends, e⟩ := microsecond_cases s <;> rw [e]
  · exact .inl rfl
  · exact .inl rfl
  · exact .inl rfl
  · have sending : s.status = .requestSending := inv.busy.mp busy
    cases kind : s.txKind with
    | request =>
      rw [finalStep_of_request (s := tick s) kind]
      exact .inr (.requestSent s sending ends kind)
    | response =>
      rw [finalStep_of_response (s := tick s) kind]
      exact .inr (.responseSent s sending ends kind)

theorem microsecond_status_of_statusMove {s : State} {q : Status} (inv : s.Inv) (m : StatusMove .transmit s q) :
    (microsecond s).status = q := by
  cases m with
  | requestSent _ h e k =>
    rw [microsecond_frameEnds (inv.busy.mpr h) e, finalStep_of_request (s := tick s) k]
  | responseSent _ h e k =>
    rw [microsecond_frameEnds (inv.busy.mpr h) e, finalStep_of_response (s := tick s) k]

/-! ### The host's commands -/

theorem acceptSend_inv (kind : TxKind) {s : State} (inv : s.Inv) (begun : s.status ≠ .notInitialized) :
    (acceptSend kind s).Inv where
  bitIndex := inv.bitIndex
  busy := by simp [acceptSend]
  halfPeriod := Nat.zero_le _
  count := Nat.zero_lt_of_lt inv.count
  quiet := by simp [acceptSend]
  driven := by simp [acceptSend, inv.lineOe_of_begun begun]

theorem refuse_inv {s : State} (inv : s.Inv) : (refuse s).Inv := inv.congr rfl rfl rfl

theorem cmdBegin_inv {s : State} (inv : s.Inv) : (cmdBegin s).Inv := by
  by_cases first : s.status = .notInitialized
  · have free : s.txBusy = false := inv.txBusy_eq_false (by simp [first])
    rw [cmdBegin_of_notInitialized first]
    exact ⟨inv.bitIndex, by simp [free], inv.halfPeriod, inv.count, fun _ => rfl, by simp⟩
  · rw [cmdBegin_of_ne first]
    exact refuse_inv inv

theorem cmdSendRequest_inv {s : State} (inv : s.Inv) : (cmdSendRequest s).Inv := by
  by_cases ready : s.status = .ready
  · rw [cmdSendRequest_of_ready ready]
    exact acceptSend_inv .request inv (by simp [ready])
  · rw [cmdSendRequest_of_ne ready]
    exact refuse_inv inv

theorem cmdSendResponse_inv {s : State} (inv : s.Inv) : (cmdSendResponse s).Inv := by
  by_cases early : s.status = .notInitialized
  · rw [cmdSendResponse_of_notInitialized early]
    exact refuse_inv inv
  · rw [cmdSendResponse_of_ne early]
    exact acceptSend_inv .response inv early

/-- Everything POLL can do (rules R148 to R153). -/
theorem pollEffect_cases (s : State) :
    pollEffect s = s ∨
    ((s.status = .responseWaiting ∨ s.status = .responseStartBit ∨ s.status = .responseReceiving) ∧
      s.params.tTimeout < s.sinceEvent ∧ pollEffect s = emitCompletion s.response .timeout { s with status := .ready }) ∨
    (s.status = .responseReady ∧
      ∃ rs, rs ≠ .none ∧ pollEffect s = emitCompletion s.response rs { s with status := .delay }) ∨
    (s.status = .responseInvalid ∧ pollEffect s = emitCompletion s.response .invalid { s with status := .delay }) ∨
    (s.status = .delay ∧ s.params.tDelay < s.sinceEvent ∧ pollEffect s = { s with status := .ready }) := by
  have silence (h : s.status = .responseWaiting ∨ s.status = .responseStartBit ∨ s.status = .responseReceiving) :
      pollEffect s = s ∨ (s.params.tTimeout < s.sinceEvent ∧
        pollEffect s = emitCompletion s.response .timeout { s with status := .ready }) := by
    rw [pollEffect_receiving h]
    by_cases silent : s.params.tTimeout < s.sinceEvent
    · rw [if_pos silent]
      exact .inr ⟨silent, rfl⟩
    · rw [if_neg silent]
      exact .inl rfl
  cases h : s.status with
  | notInitialized | ready | requestSending => exact .inl (pollEffect_nothing (by simp [h]))
  | responseWaiting | responseStartBit | responseReceiving =>
    obtain same | silent := silence (by simp [h])
    · exact .inl same
    · exact .inr (.inl ⟨by simp, silent⟩)
  | responseReady =>
    rw [pollEffect_complete h]
    refine .inr (.inr (.inl ⟨rfl, _, ?_, rfl⟩))
    split <;> exact ResponseStatus.noConfusion
  | responseInvalid => exact .inr (.inr (.inr (.inl ⟨rfl, pollEffect_malformed h⟩)))
  | delay =>
    rw [pollEffect_delay h]
    by_cases past : s.params.tDelay < s.sinceEvent
    · rw [if_pos past]
      exact .inr (.inr (.inr (.inr ⟨rfl, past, rfl⟩)))
    · rw [if_neg past]
      exact .inl rfl

theorem cmdPoll_inv {s : State} (inv : s.Inv) : (cmdPoll s).Inv := by
  unfold cmdPoll
  obtain e | ⟨old, -, e⟩ | ⟨old, rs, -, e⟩ | ⟨old, e⟩ | ⟨old, -, e⟩ := pollEffect_cases s <;> rw [e]
  · exact inv.congr rfl rfl rfl
  · have begun : s.status ≠ .requestSending ∧ s.status ≠ .notInitialized := by
      rcases old with h | h | h <;> simp [h]
    exact inv.move_within inv.bitIndex rfl begun (by simp)
  · exact inv.move_within inv.bitIndex rfl (by simp [old]) (by simp)
  · exact inv.move_within inv.bitIndex rfl (by simp [old]) (by simp)
  · exact inv.move_within inv.bitIndex rfl (by simp [old]) (by simp)

theorem cmdPoll_moves (s : State) : (cmdPoll s).status = s.status ∨ StatusMove (.host 2) s (cmdPoll s).status := by
  unfold cmdPoll
  obtain e | ⟨old, silent, e⟩ | ⟨old, rs, -, e⟩ | ⟨old, e⟩ | ⟨old, past, e⟩ := pollEffect_cases s <;> rw [e]
  · exact .inl rfl
  · exact .inr (.timeout s old silent)
  · exact .inr (.complete s old)
  · exact .inr (.invalid s old)
  · exact .inr (.delayEnds s old past)

theorem cmdPoll_status_of_statusMove {s : State} {q : Status} (m : StatusMove (.host 2) s q) :
    (cmdPoll s).status = q := by
  rw [cmdPoll, accept_status]
  cases m with
  | timeout _ h e => rw [pollEffect_receiving h, if_pos e]; rfl
  | complete _ h => rw [pollEffect_complete h]; rfl
  | invalid _ h => rw [pollEffect_malformed h]; rfl
  | delayEnds _ h e => rw [pollEffect_delay h, if_pos e]

theorem runCommand_inv {w : Word} {s t : State} (inv : s.Inv) (h : runCommand w s = .next t) : t.Inv := by
  obtain ⟨-, rfl⟩ | ⟨-, rfl⟩ | ⟨-, rfl⟩ | ⟨-, rfl⟩ | ⟨-, f, rfl⟩ | ⟨-, rfl⟩ := runCommand_cases h
  · exact cmdBegin_inv inv
  · exact cmdPoll_inv inv
  · exact cmdSendRequest_inv inv
  · exact cmdSendResponse_inv inv
  · exact inv.congr rfl rfl rfl
  · exact refuse_inv inv

/-- The host's rows are those of BEGIN, POLL and the two sends (rule R158). -/
theorem runCommand_moves {w : Word} {s t : State} (inv : s.Inv) (free : s.txBusy = false)
    (h : runCommand w s = .next t) : t.status = s.status ∨ StatusMove (.host (opcodeOf w)) s t.status := by
  obtain ⟨code, rfl⟩ | ⟨code, rfl⟩ | ⟨code, rfl⟩ | ⟨code, rfl⟩ | ⟨-, f, rfl⟩ | ⟨-, rfl⟩ := runCommand_cases h
  · rw [code]
    by_cases first : s.status = .notInitialized
    · rw [cmdBegin_of_notInitialized first]
      exact .inr (.begin s first)
    · rw [cmdBegin_of_ne first]
      exact .inl rfl
  · rw [code]
    exact cmdPoll_moves s
  · rw [code]
    by_cases ready : s.status = .ready
    · rw [cmdSendRequest_of_ready ready]
      exact .inr (.sendRequest s ready)
    · rw [cmdSendRequest_of_ne ready]
      exact .inl rfl
  · rw [code]
    by_cases early : s.status = .notInitialized
    · rw [cmdSendResponse_of_notInitialized early]
      exact .inl rfl
    · rw [cmdSendResponse_of_ne early]
      exact .inr (.sendResponse s early (inv.status_ne_requestSending free))
  · exact .inl rfl
  · exact .inl rfl

/-- What the opcode says the command is (rules R72, R73). -/
theorem runCommand_of_opcode {w : Word} {s t : State} (h : runCommand w s = .next t) :
    (opcodeOf w = 1 → t = cmdBegin s) ∧ (opcodeOf w = 2 → t = cmdPoll s) ∧ (opcodeOf w = 3 → t = cmdSendRequest s) ∧
    (opcodeOf w = 4 → t = cmdSendResponse s) ∧ (7 ≤ (opcodeOf w).toNat → t = refuse s) := by
  obtain ⟨code, rfl⟩ | ⟨code, rfl⟩ | ⟨code, rfl⟩ | ⟨code, rfl⟩ | ⟨code | code | code, f, rfl⟩ | ⟨reserved, rfl⟩ :=
    runCommand_cases h
  case inr.inr.inr.inr.inr =>
    refine ⟨?_, ?_, ?_, ?_, fun _ => rfl⟩ <;> intro code <;> rw [code] at reserved <;>
      exact absurd reserved (by decide)
  all_goals simp [code]

theorem runCommand_status_of_statusMove {w : Word} {s t : State} {q : Status} (h : runCommand w s = .next t)
    (m : StatusMove (.host (opcodeOf w)) s q) : t.status = q := by
  obtain ⟨begin, poll, request, response, -⟩ := runCommand_of_opcode h
  generalize opcodeOf w = opc at m begin poll request response
  cases m with
  | begin _ h => rw [begin rfl, cmdBegin_of_notInitialized h]; rfl
  | sendRequest _ h => rw [request rfl, cmdSendRequest_of_ready h]; rfl
  | sendResponse _ h h' => rw [response rfl, cmdSendResponse_of_ne h]; rfl
  | timeout _ h e => rw [poll rfl]; exact cmdPoll_status_of_statusMove (.timeout s h e)
  | complete _ h => rw [poll rfl]; exact cmdPoll_status_of_statusMove (.complete s h)
  | invalid _ h => rw [poll rfl]; exact cmdPoll_status_of_statusMove (.invalid s h)
  | delayEnds _ h e => rw [poll rfl]; exact cmdPoll_status_of_statusMove (.delayEnds s h e)

/-! ### Every agent -/

/-- A host access that is no command writes nothing the invariant or the status graph speaks of. -/
theorem hostRegistersOnly_of_access {i : Instr} {s t : State} (host : i.isHostAccess = true)
    (other : ∀ opc, ¬ isCommand opc i) (h : exec i s = .next t) : hostRegistersOnly s t := by
  obtain ⟨w, command, -⟩ | ⟨-, only, -⟩ := exec_hostAccess_cases host h
  · exact absurd command (other _)
  · exact only

theorem agentStep_inv {who : Agent} {s t : State} (inv : s.Inv) (step : AgentStep who s t) : t.Inv := by
  cases step with
  | reset strap rest _ =>
    exact (resetWith_inv (Nat.zero_lt_of_lt inv.count) strap).congr rfl rfl rfl
  | command w _ _ free h => exact runCommand_inv inv h
  | access i _ _ host other free h =>
    rw [hostRegistersOnly_of_access host other h]
    exact inv.congr rfl rfl rfl
  | transmit _ => exact microsecond_inv inv
  | edge lvl _ => exact edgeEvent_inv lvl inv
  | world rest _ => exact inv.congr rfl rfl rfl

theorem agentStep_moves {who : Agent} {s t : State} (inv : s.Inv) (step : AgentStep who s t) :
    t.status = s.status ∨ StatusMove who s t.status := by
  cases step with
  | reset strap rest _ => exact .inr (.reset s)
  | command w _ _ free h => exact runCommand_moves inv free h
  | access i _ _ host other free h =>
    rw [hostRegistersOnly_of_access host other h]
    exact .inl rfl
  | transmit _ => exact microsecond_moves inv
  | edge lvl _ =>
    obtain same | move | ⟨beyond, -⟩ := edgeEvent_status_cases lvl s
    · exact .inl same
    · exact .inr move
    · exact absurd inv.bitIndex (Nat.not_le.mpr beyond)
  | world rest _ => exact .inl rfl

theorem agentStep_status_of_statusMove {who : Agent} {s t : State} {q : Status} (inv : s.Inv)
    (step : AgentStep who s t) (m : StatusMove who s q) : t.status = q := by
  cases step with
  | reset strap rest _ => cases m; rfl
  | command w _ _ free h => exact runCommand_status_of_statusMove h m
  | access i _ _ host other free h => cases m
  | transmit _ => exact microsecond_status_of_statusMove inv m
  | edge lvl _ => exact edgeEvent_status_of_statusMove m
  | world rest _ => cases m

end Sys2Proof.Machine
end

section

/-! ## Every step as atomic steps of the agents (00_scope.md §3, 60_exceptions.md §4) -/

namespace Sys2Proof.Machine

open Relation (ReflTransGen)

/-! ### The sequence of atomic steps a step is -/

/-- An atomic step of some agent, the reset pin left out. -/
def EngineStep (u v : State) : Prop := ∃ who, who ≠ .reset ∧ AgentStep who u v

theorem engineSteps_world (rest : List Input) (s : State) :
    ReflTransGen EngineStep s { endPulse s with inputs := rest } :=
  .single ⟨.world, Agent.noConfusion, .world rest s⟩

theorem engineSteps_edge {s : State} (lvl : Level) (u : State) (h : ReflTransGen EngineStep s u) :
    ReflTransGen EngineStep s (edgeEvent lvl u) :=
  h.tail ⟨.edge lvl, Agent.noConfusion, .edge lvl u⟩

theorem engineSteps_microsecond {s : State} (u : State) (h : ReflTransGen EngineStep s u) :
    ReflTransGen EngineStep s (microsecond u) :=
  h.tail ⟨.transmit, Agent.noConfusion, .transmit u⟩

/-- An operation is one atomic step of the host, or the edges and microseconds of its waveform. -/
theorem engineSteps_exec {i : Instr} {s u t : State} (before : ReflTransGen EngineStep s u)
    (free : i.isHostAccess = true → u.txBusy = false) (h : exec i u = .next t) : ReflTransGen EngineStep s t := by
  cases access : i.isHostAccess with
  | false => exact lineOperation_keeps engineSteps_edge engineSteps_microsecond access h before
  | true =>
    obtain ⟨w, -, run⟩ | ⟨other, -, -⟩ := exec_hostAccess_cases access h
    · exact before.tail ⟨_, Agent.noConfusion, .command w u t (free access) run⟩
    · exact before.tail ⟨_, Agent.noConfusion, .access i u t access other (free access) h⟩

theorem engineSteps_presentMisfit {m : Misfit} {s u t : State} (h : presentMisfit m u = .next t)
    (before : ReflTransGen EngineStep s u) : ReflTransGen EngineStep s t := by
  have half : ∀ lvl v, ReflTransGen EngineStep s v → ReflTransGen EngineStep s (halfPeriod lvl v) :=
    fun lvl _ => halfPeriod_keeps engineSteps_edge engineSteps_microsecond lvl
  obtain ⟨start, f, stop, e⟩ | ⟨lvl, e⟩ := presentMisfit_cases h <;> rw [e]
  · exact receiveFrame_keeps engineSteps_edge engineSteps_microsecond start f stop before
  · exact half lvl _ (half lvl u before)

theorem engineSteps_clockAgents (boundary : Bool) (lvl : Level) {s u : State}
    (before : ReflTransGen EngineStep s u) : ReflTransGen EngineStep s (clockAgents boundary lvl u) := by
  unfold clockAgents
  refine sample_keeps engineSteps_edge lvl ?_
  split
  · exact engineSteps_microsecond u before
  · exact before

/-- Every step but a reset is atomic steps of the other agents (rules R5, R50, R170). -/
theorem step_engineSteps {s t : State} (h : step s = .next t) :
    (∃ strap rest, s.inputs = .reset strap :: rest ∧ AgentStep .reset s t) ∨ ReflTransGen EngineStep s t := by
  obtain rfl | ⟨b, rest, i, -, -, free, e⟩ | ⟨b, rest, m, -, -, e⟩ | ⟨us, rest, -, rfl⟩ |
    ⟨boundary, lvl, port, rest, -, e⟩ | ⟨we, addr, n, wdata, rest, p, -, -, free, e⟩ | ⟨strap, rest, presented, rfl⟩ :=
    step_cases h
  · exact .inr (engineSteps_microsecond _ (engineSteps_world s.inputs s))
  · exact .inr (engineSteps_exec (engineSteps_world rest s) free e)
  · exact .inr (engineSteps_presentMisfit e (engineSteps_world rest s))
  · exact .inr (elapse_keeps engineSteps_microsecond us (engineSteps_world rest s))
  · have agents := engineSteps_clockAgents boundary lvl (engineSteps_world rest s)
    obtain rfl | ⟨p, -, free, access⟩ := hostTurn_cases e
    · exact .inr agents
    · exact .inr (engineSteps_exec agents (fun _ => free) access)
  · exact .inr (engineSteps_exec (engineSteps_world rest s) (fun _ => free) e)
  · exact .inl ⟨strap, rest, presented, .reset strap rest s⟩

/-! ### What the whole machine keeps -/

theorem agentStep_params {who : Agent} {s t : State} (step : AgentStep who s t) : t.params = s.params := by
  cases step with
  | command w _ _ free h => exact (runCommand_sameBesideCommands h).1.2.1
  | access i _ _ host other free h => exact (exec_sameSetting h).2.1
  | transmit _ => exact microsecond_params s
  | edge lvl _ => exact edgeEvent_params lvl s
  | reset strap rest _ | world rest _ => rfl

/-- The role changes by the reset pin only (rule R18). -/
theorem agentStep_isSlave {who : Agent} {s t : State} (notReset : who ≠ .reset) (step : AgentStep who s t) :
    t.isSlave = s.isSlave := by
  cases step with
  | reset strap rest _ => exact absurd rfl notReset
  | command w _ _ free h => exact (runCommand_sameBesideCommands h).1.2.2
  | access i _ _ host other free h => exact (exec_sameSetting h).2.2
  | transmit _ => exact microsecond_isSlave s
  | edge lvl _ => exact edgeEvent_isSlave lvl s
  | world rest _ => rfl

theorem engineSteps_keep {s t : State} (inv : s.Inv) (steps : ReflTransGen EngineStep s t) :
    t.Inv ∧ t.params = s.params ∧ t.isSlave = s.isSlave := by
  induction steps with
  | refl => exact ⟨inv, rfl, rfl⟩
  | tail _ last ih =>
    obtain ⟨who, notReset, step⟩ := last
    obtain ⟨inv', params, role⟩ := ih
    exact ⟨agentStep_inv inv' step, (agentStep_params step).trans params, (agentStep_isSlave notReset step).trans role⟩

/-- Settles O13: every atomic step keeps the invariant and the parameters, and every one but a reset the role. -/
theorem stepKeepsInvariant : Obligations.StepKeepsInvariant := by
  unfold Obligations.StepKeepsInvariant
  intro s t inv h
  obtain ⟨strap, rest, presented, reset⟩ | steps := step_engineSteps h
  · exact ⟨agentStep_inv inv reset, agentStep_params reset, .inr ⟨strap, rest, presented⟩⟩
  · obtain ⟨inv', params, role⟩ := engineSteps_keep inv steps
    exact ⟨inv', params, .inl role⟩

/-- An atomic step in a state that meets the invariant, with its move in the status graph (rule R158). -/
def GraphStep (u v : State) : Prop :=
  u.Inv ∧ ∃ who, AgentStep who u v ∧ (v.status = u.status ∨ StatusMove who u v.status)

theorem graphSteps_of_engineSteps {s t : State} (inv : s.Inv) (steps : ReflTransGen EngineStep s t) :
    ReflTransGen GraphStep s t := by
  induction steps with
  | refl => exact .refl
  | tail before last ih =>
    obtain ⟨inv', -⟩ := engineSteps_keep inv before
    obtain ⟨who, -, step⟩ := last
    exact ih.tail ⟨inv', who, step, agentStep_moves inv' step⟩

/-- Settles O15: each agent's move is decided by the graph, and every step is a sequence of such moves. -/
theorem statusMovesExactly : Obligations.StatusMovesExactly := by
  unfold Obligations.StatusMovesExactly
  refine ⟨fun who s t inv step => ⟨agentStep_inv inv step, agentStep_moves inv step,
    fun q m => agentStep_status_of_statusMove inv step m⟩, fun s t inv h => ?_⟩
  obtain ⟨strap, rest, -, reset⟩ | steps := step_engineSteps h
  · exact .single ⟨inv, .reset, reset, agentStep_moves inv reset⟩
  · exact graphSteps_of_engineSteps inv steps

/-! ### Completion events -/

/-- `t` has the completion outputs and the result as `s` has them (rules R164, R165). -/
def sameCompletion (s t : State) : Prop :=
  t.doneValid = s.doneValid ∧ t.doneFrame = s.doneFrame ∧ t.responseStatus = s.responseStatus

/-- No command but POLL emits a completion event or acknowledges one (rules R164, R169). -/
theorem runCommand_sameCompletion {w : Word} {s t : State} (h : runCommand w s = .next t) (notPoll : opcodeOf w ≠ 2) :
    sameCompletion s t ∧ t.done = s.done := by
  obtain ⟨-, rfl⟩ | ⟨poll, -⟩ | ⟨-, rfl⟩ | ⟨-, rfl⟩ | ⟨-, f, rfl⟩ | ⟨-, rfl⟩ := runCommand_cases h
  · unfold cmdBegin
    split <;> exact ⟨⟨rfl, rfl, rfl⟩, rfl⟩
  · exact absurd poll notPoll
  · unfold cmdSendRequest
    split <;> exact ⟨⟨rfl, rfl, rfl⟩, rfl⟩
  · unfold cmdSendResponse
    split <;> exact ⟨⟨rfl, rfl, rfl⟩, rfl⟩
  · exact ⟨⟨rfl, rfl, rfl⟩, rfl⟩
  · exact ⟨⟨rfl, rfl, rfl⟩, rfl⟩

/-- Settles O16: the line, the other accesses and the other commands leave the completion alone. -/
theorem onlyPollCompletes : Obligations.OnlyPollCompletes := by
  unfold Obligations.OnlyPollCompletes
  intro i s t h notPoll
  cases access : i.isHostAccess with
  | false =>
    obtain ⟨responseStatus, done, doneFrame, doneValid, -⟩ := lineOperation_sameHostSide access h
    exact ⟨doneValid, doneFrame, responseStatus, .inl done⟩
  | true =>
    obtain ⟨w, command, run⟩ | ⟨-, only, done⟩ := exec_hostAccess_cases access h
    · have other : opcodeOf w ≠ 2 := fun code => notPoll (code ▸ command)
      obtain ⟨⟨doneValid, doneFrame, responseStatus⟩, done⟩ := runCommand_sameCompletion run other
      exact ⟨doneValid, doneFrame, responseStatus, .inl done⟩
    · refine ⟨?_, ?_, ?_, done⟩ <;> rw [only]

/-- A POLL is `cmdPoll`, as a row of its own or through CMD. -/
theorem exec_of_isCommand_poll {i : Instr} {s t : State} (poll : isCommand 2 i) (h : exec i s = .next t) :
    t = cmdPoll s := by
  obtain ⟨w, code, run⟩ := runCommand_of_isCommand poll
  exact (runCommand_of_opcode (run s ▸ h)).2.1 code

/-- A POLL that leaves the exchange under way emits nothing; one that ends it emits the one event (rules R150 to R152). -/
theorem cmdPoll_inExchange {s : State} (exchange : s.status.inExchange = true) :
    ((cmdPoll s).status.inExchange = true ∧ cmdPoll s = accept s) ∨
    ∃ rs q, rs ≠ ResponseStatus.none ∧ (q = Status.ready ∨ q = Status.delay) ∧
      cmdPoll s = accept (emitCompletion s.response rs { s with status := q }) := by
  unfold cmdPoll
  obtain e | ⟨-, -, e⟩ | ⟨-, rs, reported, e⟩ | ⟨-, e⟩ | ⟨delay, -, -⟩ := pollEffect_cases s
  · rw [e]; exact .inl ⟨exchange, rfl⟩
  · rw [e]; exact .inr ⟨_, _, ResponseStatus.noConfusion, .inl rfl, rfl⟩
  · rw [e]; exact .inr ⟨_, _, reported, .inr rfl, rfl⟩
  · rw [e]; exact .inr ⟨_, _, ResponseStatus.noConfusion, .inr rfl, rfl⟩
  · rw [delay] at exchange; cases exchange

/-- Nothing on the line ends an exchange (rules R126 to R133). -/
theorem lineOperation_inExchange {i : Instr} (line : i.isHostAccess = false) {s t : State} (h : exec i s = .next t)
    (free : s.txBusy = false) (exchange : s.status.inExchange = true) : t.status.inExchange = true := by
  refine (lineOperation_keeps (P := fun u => u.txBusy = false ∧ u.status.inExchange = true) ?_ ?_ line h
    ⟨free, exchange⟩).2
  · rintro lvl u ⟨rest, within⟩
    obtain same | ⟨new, -⟩ := edgeEvent_status lvl u
    · exact ⟨by simpa using rest, by rw [same]; exact within⟩
    · exact ⟨by simpa using rest, new⟩
  · rintro u ⟨rest, within⟩
    rw [microsecond_idle rest]
    exact ⟨rest, within⟩

/-- Of the other operations only SEND_RESPONSE cuts an exchange short (rule R147). -/
theorem exec_cuts_exchange {i : Instr} {s t : State} (inv : s.Inv) (exchange : s.status.inExchange = true)
    (h : exec i s = .next t) (notPoll : ¬ isCommand 2 i) (left : t.status.inExchange = false) :
    isCommand 4 i ∧ t.status = .requestSending := by
  have begun := Status.ne_of_inExchange exchange
  have stays : ¬ t.status = s.status := fun same => by rw [same, exchange] at left; cases left
  cases access : i.isHostAccess with
  | false =>
    have within := lineOperation_inExchange access h (inv.txBusy_eq_false begun.1) exchange
    rw [within] at left
    cases left
  | true =>
    obtain ⟨w, command, run⟩ | ⟨-, only, -⟩ := exec_hostAccess_cases access h
    · obtain ⟨-, rfl⟩ | ⟨code, -⟩ | ⟨-, rfl⟩ | ⟨code, rfl⟩ | ⟨-, f, rfl⟩ | ⟨-, rfl⟩ := runCommand_cases run
      · exact absurd (by rw [cmdBegin_of_ne begun.2]; rfl) stays
      · exact absurd (code ▸ command) notPoll
      · have notReady : s.status ≠ .ready := fun ready => by rw [ready] at exchange; cases exchange
        exact absurd (by rw [cmdSendRequest_of_ne notReady]; rfl) stays
      · exact ⟨code ▸ command, by rw [cmdSendResponse_of_ne begun.2]; rfl⟩
      · exact absurd rfl stays
      · exact absurd rfl stays
    · exact absurd (by rw [only]) stays

/-- Settles O17: a POLL ends the exchange with its event, and of the rest only SEND_RESPONSE leaves it. -/
theorem exchangeEndsWithOneCompletion : Obligations.ExchangeEndsWithOneCompletion := by
  unfold Obligations.ExchangeEndsWithOneCompletion
  intro i s t inv exchange h
  by_cases poll : isCommand 2 i
  · obtain rfl := exec_of_isCommand_poll poll h
    refine ⟨fun _ notPoll => absurd poll notPoll, fun within _ => ?_, fun ended => .inl ⟨poll, ?_⟩⟩
    · obtain ⟨-, e⟩ | ⟨rs, q, -, rfl | rfl, e⟩ := cmdPoll_inExchange exchange
      · rw [e]; exact ⟨rfl, rfl⟩
      · rw [e] at within; cases within
      · rw [e] at within; cases within
    · obtain ⟨within, -⟩ | ⟨rs, q, reported, moved, e⟩ := cmdPoll_inExchange exchange
      · rw [within] at ended; cases ended
      · rw [e]
        exact ⟨moved, rfl, rfl, rfl, reported, completionOutput_of_doneValid rfl⟩
  · obtain ⟨doneValid, -⟩ := onlyPollCompletes i s t h poll
    refine ⟨fun _ _ => doneValid, fun _ isPoll => absurd isPoll poll, fun left => .inr ?_⟩
    obtain ⟨response, sending⟩ := exec_cuts_exchange inv exchange h poll left
    exact ⟨response, sending, doneValid⟩

end Sys2Proof.Machine
end

section

/-! ## One step, by what is presented (20_memory.md, 60_exceptions.md, 70_reset_and_hazards.md) -/

namespace Sys2Proof.Machine

/-! ### The step of each kind of input -/

section

variable {s : State} {rest : List Input}

theorem step_of_nothing (presented : s.inputs = []) : step s = .next (microsecond { s with doneValid := false }) := by
  change step s = .next (microsecond (endPulse s))
  unfold step stepOn
  rw [endPulse_inputs, presented]

theorem step_of_word {b : Bits} {i : Instr} (presented : s.inputs = .word b :: rest) (d : decodeBits b = .ok i)
    (free : i.isHostAccess = true → s.txBusy = false) :
    step s = exec i { s with inputs := rest, doneValid := false } := by
  have taken : ¬ (i.isHostAccess && (endPulse s).held) = true := by
    rw [Bool.and_eq_true]
    rintro ⟨host, held⟩
    exact Bool.false_ne_true ((free host).symm.trans held)
  unfold step stepOn
  rw [endPulse_inputs, presented]
  simp only [d, if_neg taken]
  rfl

theorem step_of_word_held {b : Bits} {i : Instr} (presented : s.inputs = .word b :: rest) (d : decodeBits b = .ok i)
    (host : i.isHostAccess = true) (busy : s.txBusy = true) :
    step s = .next (microsecond { s with doneValid := false }) := by
  have waits : (i.isHostAccess && (endPulse s).held) = true := Bool.and_eq_true_iff.mpr ⟨host, busy⟩
  change step s = .next (microsecond (endPulse s))
  unfold step stepOn
  rw [endPulse_inputs, presented]
  simp only [d, if_pos waits]

theorem step_of_misfit {b : Bits} {m : Misfit} (presented : s.inputs = .word b :: rest) (d : decodeBits b = .error m) :
    step s = presentMisfit m { s with inputs := rest, doneValid := false } := by
  unfold step stepOn
  rw [endPulse_inputs, presented]
  simp only [d]
  rfl

theorem step_of_wait {us : Nat} (presented : s.inputs = .wait us :: rest) :
    step s = .next (elapse us { s with inputs := rest, doneValid := false }) := by
  unfold step stepOn
  rw [endPulse_inputs, presented]
  rfl

theorem step_of_clock {boundary : Bool} {lvl : Level} {port : Option PortRequest}
    (presented : s.inputs = .clock boundary lvl port :: rest) :
    step s = hostTurn port (clockAgents boundary lvl { s with inputs := rest, doneValid := false }) := by
  unfold step stepOn
  rw [endPulse_inputs, presented]
  rfl

theorem step_of_bus_refused {we : Bool} {addr n : Nat} {v : Word} {r : Refusal}
    (presented : s.inputs = .bus we addr n v :: rest) (e : bridge we addr n v = .error r) : step s = .refused r := by
  unfold step stepOn
  rw [endPulse_inputs, presented]
  simp only [e]

theorem step_of_bus {we : Bool} {addr n : Nat} {v : Word} {p : PortRequest}
    (presented : s.inputs = .bus we addr n v :: rest) (e : bridge we addr n v = .ok p) (free : s.txBusy = false) :
    step s = exec (regInstr p.index p.access) { s with inputs := rest, doneValid := false } := by
  have taken : ¬ (endPulse s).held = true := fun held => Bool.false_ne_true (free.symm.trans held)
  unfold step stepOn
  rw [endPulse_inputs, presented]
  simp only [e, if_neg taken]
  rfl

theorem step_of_bus_held {we : Bool} {addr n : Nat} {v : Word} {p : PortRequest}
    (presented : s.inputs = .bus we addr n v :: rest) (e : bridge we addr n v = .ok p) (busy : s.txBusy = true) :
    step s = .next (microsecond { s with doneValid := false }) := by
  have waits : (endPulse s).held = true := busy
  change step s = .next (microsecond (endPulse s))
  unfold step stepOn
  rw [endPulse_inputs, presented]
  simp only [e, if_pos waits]

theorem step_of_reset {strap : Bool} (presented : s.inputs = .reset strap :: rest) :
    step s = .next { State.resetWith s.params strap with inputs := rest } := by
  unfold step stepOn
  rw [endPulse_inputs, presented]
  rfl

end

/-! ### The bus bridge -/

theorem bridge_of_width (we : Bool) (addr : Nat) {n : Nat} (v : Word) (width : n ≠ 4) :
    bridge we addr n v = .error .accessWidth := if_pos width

theorem bridge_of_misaligned (we : Bool) {addr : Nat} (v : Word) (misaligned : addr % 4 ≠ 0) :
    bridge we addr 4 v = .error .accessMisaligned := by
  rw [bridge, if_neg (not_not.mpr rfl), if_pos misaligned]

theorem bridge_of_outside (we : Bool) {addr : Nat} (v : Word) (aligned : addr % 4 = 0)
    (outside : addr < Config.base ∨ Config.base + 64 ≤ addr) : bridge we addr 4 v = .error .accessOutsideWindow := by
  rw [bridge, if_neg (not_not.mpr rfl), if_neg (not_not.mpr aligned), if_pos outside]

/-- The window is aligned to its size, so a word's offset is four times its index (rules R40, R41). -/
theorem bridge_of_index (we : Bool) (index : BitVec 4) (v : Word) :
    bridge we (Config.base + 4 * index.toNat) 4 v = .ok ⟨index, if we then .write v else .read⟩ := by
  have base : Config.base % 4 = 0 := by rw [Config.base]; omega
  have width := index.isLt
  have inside : ¬ (Config.base + 4 * index.toNat < Config.base ∨ Config.base + 64 ≤ Config.base + 4 * index.toNat) := by
    omega
  have offset : BitVec.ofNat 4 ((Config.base + 4 * index.toNat - Config.base) / 4) = index := by
    rw [Nat.add_sub_cancel_left, Nat.mul_div_cancel_left _ (by decide), BitVec.ofNat_toNat, BitVec.setWidth_eq]
  rw [bridge, if_neg (not_not.mpr rfl), if_neg (by omega), if_neg inside, offset]

theorem decodeReg_of_misaligned {offset : BitVec 6} (a : Access) (misaligned : offset.toNat % 4 ≠ 0) :
    decodeBits (.reg offset a) = .error .registerMisaligned := by
  have low : offset.extractLsb' 0 2 ≠ 0 := by
    intro zero
    have := congrArg BitVec.toNat zero
    simp at this
    omega
  exact if_pos low

/-! ### The wire -/

theorem decodeBits_wireWord (start : Bool) (f : Word) (stop : Bool) :
    decodeBits (.wire (wireWord start f stop)) =
      if start then (if stop then .ok (.wireFrame start f stop) else .error (.stopSlotNotOne f))
      else .error (.startSlotNotOne f stop) := by
  simp only [decodeBits, decodeWire, wireWord_slots]
  cases start <;> cases stop <;> rfl

/-- Settles O4: the decoder by the two framing slots; whichever way it decides, the step presents the waveform. -/
theorem wireFrameNeedsStartAndStop : Obligations.WireFrameNeedsStartAndStop := by
  unfold Obligations.WireFrameNeedsStartAndStop
  refine ⟨fun start f stop => ?_, fun lvl s rest presented => ?_⟩
  · have d := decodeBits_wireWord start f stop
    cases start with
    | false => exact ⟨decode_bytesOf_misfit d, fun s rest presented => step_of_misfit presented d⟩
    | true =>
      cases stop with
      | false => exact ⟨decode_bytesOf_misfit d, fun s rest presented => step_of_misfit presented d⟩
      | true => exact ⟨decode_bytesOf d, fun s rest presented => step_of_word presented d Bool.noConfusion⟩
  · cases lvl with
    | idle => exact step_of_misfit presented rfl
    | active => exact step_of_misfit presented rfl

/-! ### The statements -/

/-- Settles O5: the step of a word that decodes. -/
theorem stepRunsDecodedOperation : Obligations.StepRunsDecodedOperation := by
  unfold Obligations.StepRunsDecodedOperation
  exact fun s b rest i presented d free => step_of_word presented d free

/-- Settles O6: held at the port or at the bridge, the access waits for one microsecond, which takes no input. -/
theorem heldHostWaits : Obligations.HeldHostWaits := by
  unfold Obligations.HeldHostWaits
  intro s busy access
  have waits : step s = .next (microsecond { s with doneValid := false }) := by
    obtain ⟨b, rest, i, presented, d, host⟩ | ⟨we, index, v, rest, presented⟩ := access
    · exact step_of_word_held presented d host busy
    · exact step_of_bus_held presented (bridge_of_index we index v) busy
  have held : s.portReady = false := congrArg Bool.not busy
  exact ⟨held, _, waits, rfl, by simp, by simp, by simp, by simp⟩

/-- Settles O7: the microseconds of `elapse`, and the tick of an idle engine. -/
theorem timePasses : Obligations.TimePasses := by
  unfold Obligations.TimePasses
  refine fun s n rest => ⟨step_of_nothing, fun presented => ⟨?_, fun t h => ?_⟩, microsecond_idle⟩
  · rw [step_of_wait presented, elapse_eq_iterate]
  · rw [step_of_wait presented] at h
    rw [← Host.Outcome.next.inj h, elapse_now]

/-- The tick, and the transmit agent after it, in the periods of a microsecond boundary (rules R113, R170). -/
theorem microsecond_of_boundary (boundary : Bool) (s : State) :
    (if boundary then microsecond s else s) =
      let t := if boundary then { s with now := s.now + 1 } else s
      if boundary ∧ t.txBusy = true then txStep t else t := by
  cases boundary with
  | true =>
    rcases Bool.eq_false_or_eq_true s.txBusy with busy | idle
    · simp [microsecond_busy busy, tick, busy]
    · simp [microsecond_idle idle, tick, idle]
  | false => simp

theorem sample_eq_ite_ne (lvl : Level) (s : State) : sample lvl s = if s.rxPrev ≠ lvl then edgeEvent lvl s else s :=
  (ite_not _ _ _).symm

/-- Settles O8: the tick and the transmit agent are the microsecond, the edge agent is the detector's sampling. -/
theorem clockPeriodOrder : Obligations.ClockPeriodOrder := by
  unfold Obligations.ClockPeriodOrder
  intro s boundary lvl port rest presented
  refine ⟨_, _, clockAgents boundary lvl { s with inputs := rest, doneValid := false }, rfl, rfl, ?_, ?_⟩
  · rw [clockAgents, sample_eq_ite_ne, microsecond_of_boundary]
  · rw [step_of_clock presented]
    cases port <;> rfl

/-- Settles O9: the bridge's four answers, and the window's own for a misaligned offset. -/
theorem bridgeTakesAlignedWords : Obligations.BridgeTakesAlignedWords := by
  unfold Obligations.BridgeTakesAlignedWords
  refine ⟨fun s we addr n v rest presented => ⟨fun width => ?_, ?_, ?_, ?_⟩,
    fun s offset a rest presented misaligned => ?_⟩
  · exact step_of_bus_refused presented (bridge_of_width we addr v width)
  · rintro rfl misaligned
    exact step_of_bus_refused presented (bridge_of_misaligned we v misaligned)
  · rintro rfl aligned outside
    exact step_of_bus_refused presented (bridge_of_outside we v aligned outside)
  · rintro index rfl rfl free
    exact step_of_bus presented (bridge_of_index we index v) free
  · exact step_of_misfit presented (decodeReg_of_misaligned a misaligned)

/-- Settles O11: the step of a reset, whatever it interrupts. -/
theorem resetFromAnyState : Obligations.ResetFromAnyState := by
  unfold Obligations.ResetFromAnyState
  exact fun s strap rest presented => ⟨_, step_of_reset presented, rfl, rfl, rfl, rfl⟩

end Sys2Proof.Machine
end

section

/-! ## The codec, the window and the commands (20_memory.md, 40_codec.md, 43_session.md) -/

namespace Sys2Proof.Machine

/-! ### The codec -/

/-- Settles O22: parity is a homomorphism, so flipping a set of bits flips it by the parity of the set. -/
theorem parityDetectsOddFlips : Obligations.ParityDetectsOddFlips := by
  unfold Obligations.ParityDetectsOddFlips
  intro f even
  have flipped (flips : Word) : parity (f ^^^ flips) = parity flips := by rw [parity_xor, even, Bool.false_bne]
  refine ⟨fun k hk => ?_, fun flips odd => ?_, fun flips evenFlips => ?_⟩
  · rw [flipped, parity_one_bit k hk]
  · rw [flipped, parity, odd]; rfl
  · rw [flipped, parity, evenFlips]; rfl

/-- What CODEC_INFO reads of a frame word, by the word's own fields (rules R48, R65, R95, R96). -/
theorem codecInfo_frameWord (p : BitVec 1) (type : BitVec 3) (spare : BitVec 4) (id : BitVec 8) (payload : BitVec 16) :
    let f := frameWord p type spare id payload
    (codecInfo f).getLsbD 0 = parity f ∧
    (codecInfo f).getLsbD 1 = (!parity f && decide (type = 0 ∨ type = 1)) ∧
    (codecInfo f).getLsbD 2 = (!parity f && decide (type = 4 ∨ type = 5)) ∧
    (codecInfo f).getLsbD 3 = false ∧ (codecInfo f).extractLsb' 4 3 = type ∧ (codecInfo f).getLsbD 7 = false ∧
    (codecInfo f).extractLsb' 8 8 = id ∧ (codecInfo f).extractLsb' 16 16 = payload := by
  intro f
  obtain ⟨-, typeField, -, idField, payloadField⟩ := frameWord_fields p type spare id payload
  obtain ⟨parityBit, request, response, reserved3, reserved7⟩ := codecInfo_flags f
  obtain ⟨infoType, infoId, infoPayload⟩ := codecInfo_fields f
  have ofType : getMessageType f = type := typeField
  refine ⟨parityBit, ?_, ?_, reserved3, infoType.trans typeField, reserved7, infoId.trans idField,
    infoPayload.trans payloadField⟩
  · rw [request, Bool.eq_iff_iff, isValidRequest_iff, ofType]; simp
  · rw [response, Bool.eq_iff_iff, isValidResponse_iff, ofType]; simp

/-- Settles O26: each of the eight rows gives its word to the codec. -/
theorem frameWordsInspected : Obligations.FrameWordsInspected := by
  unfold Obligations.FrameWordsInspected
  intro s p spare id payload
  exact ⟨⟨_, rfl, codecInfo_frameWord p 0 spare id payload⟩, ⟨_, rfl, codecInfo_frameWord p 1 spare id payload⟩,
    ⟨_, rfl, codecInfo_frameWord p 2 spare id payload⟩, ⟨_, rfl, codecInfo_frameWord p 3 spare id payload⟩,
    ⟨_, rfl, codecInfo_frameWord p 4 spare id payload⟩, ⟨_, rfl, codecInfo_frameWord p 5 spare id payload⟩,
    ⟨_, rfl, codecInfo_frameWord p 6 spare id payload⟩, ⟨_, rfl, codecInfo_frameWord p 7 spare id payload⟩⟩

/-! ### The window -/

/-- Settles O31: the reads of those words of the window. -/
theorem readOnlyRegisters : Obligations.ReadOnlyRegisters := by
  unfold Obligations.ReadOnlyRegisters
  exact fun s => ⟨exec_read 3 s, exec_read 4 s, exec_read 5 s, exec_read 6 s, exec_read 0 s, exec_read 11 s,
    exec_read 12 s, exec_read 13 s, exec_read 14 s, exec_read 15 s⟩

/-- Settles O32: the writes to those words of the window. -/
theorem ignoredWrites : Obligations.IgnoredWrites := by
  unfold Obligations.IgnoredWrites
  exact fun s v => ⟨exec_write (index := 1) (by decide) v s, exec_write (index := 3) (by decide) v s,
    exec_write (index := 4) (by decide) v s, exec_write (index := 5) (by decide) v s,
    exec_write (index := 6) (by decide) v s, exec_write (index := 10) (by decide) v s,
    exec_write (index := 11) (by decide) v s, exec_write (index := 12) (by decide) v s,
    exec_write (index := 13) (by decide) v s, exec_write (index := 14) (by decide) v s,
    exec_write (index := 15) (by decide) v s⟩

/-- No word of the window reads `rdata` (rule R53). -/
theorem sameRegisters_rdata (s : State) (w : Word) : sameRegisters [] s { s with rdata := w } := fun _ _ => rfl

theorem sameRegisters_txdata (s : State) (w : Word) : sameRegisters [2] s { s with txdata := w } := by
  intro index other
  unfold regValue
  split
  case h_2 e => exact absurd (List.mem_singleton.mpr (BitVec.eq_of_toNat_eq e)) other
  all_goals rfl

theorem sameRegisters_irqEn (s : State) (b : Bool) : sameRegisters [8] s { s with irqEn := b } := by
  intro index other
  unfold regValue
  split
  case h_8 e => exact absurd (List.mem_singleton.mpr (BitVec.eq_of_toNat_eq e)) other
  all_goals rfl

/-- STATUS shows `done` too (rule R44). -/
theorem sameRegisters_done (s : State) (b : Bool) : sameRegisters [1, 7] s { s with done := b } := by
  intro index other
  obtain ⟨notStatus, notIrq⟩ : index ≠ 1 ∧ index ≠ 7 := by simpa using other
  unfold regValue
  split
  case h_1 e => exact absurd (BitVec.eq_of_toNat_eq e) notStatus
  case h_7 e => exact absurd (BitVec.eq_of_toNat_eq e) notIrq
  all_goals rfl

/-- CODEC_INFO is computed from CODEC_FRAME (rule R48). -/
theorem sameRegisters_codecFrame (s : State) (w : Word) : sameRegisters [9, 10] s { s with codecFrame := w } := by
  intro index other
  obtain ⟨notFrame, notInfo⟩ : index ≠ 9 ∧ index ≠ 10 := by simpa using other
  unfold regValue
  split
  case h_9 e => exact absurd (BitVec.eq_of_toNat_eq e) notFrame
  case h_10 e => exact absurd (BitVec.eq_of_toNat_eq e) notInfo
  all_goals rfl

/-- Settles O33: a read writes `rdata` alone, a write one register, and the words that show it are listed. -/
theorem windowFrame : Obligations.WindowFrame := by
  unfold Obligations.WindowFrame
  refine fun index s => ⟨⟨_, exec_read index s, rfl, sameRegisters_rdata s _⟩,
    fun v notCmd => ⟨_, exec_write notCmd v s, ?_⟩⟩
  split_ifs
  · exact ⟨rfl, sameRegisters_txdata s v⟩
  · exact ⟨rfl, sameRegisters_done s _⟩
  · exact ⟨rfl, sameRegisters_irqEn s _⟩
  · exact ⟨rfl, sameRegisters_codecFrame s v⟩
  · exact ⟨rfl, fun _ _ => rfl⟩

/-! ### The commands -/

/-- Settles O44: POLL has no effect of its own there. -/
theorem pollElsewhere : Obligations.PollElsewhere := by
  unfold Obligations.PollElsewhere
  intro ign s elsewhere
  rw [exec_poll, pollEffect_nothing elsewhere]
  rfl

@[simp] theorem finalStep_cmdOk (s : State) : (finalStep s).cmdOk = true := by
  unfold finalStep
  split <;> rfl

/-- The CMD write of a send completes when its frame has been sent (rules R49, R117). -/
theorem cmdOk_after_tFrame {s : State} (fits : s.params.fits) (kind : TxKind) :
    (microsecond^[s.params.tFrame] (acceptSend kind s)).cmdOk = true := by
  rw [iterate_microsecond_tFrame_acceptSend fits, finalStep_cmdOk]

/-- Settles O46: each command by its opcode, refused or not. -/
theorem refusalsChangeNothing : Obligations.RefusalsChangeNothing := by
  unfold Obligations.RefusalsChangeNothing
  intro w s
  obtain ⟨t, h⟩ := runCommand_answers w s
  obtain ⟨begin, -, request, response, reserved⟩ := runCommand_of_opcode h
  refine ⟨fun refused => h.trans (congrArg Host.Outcome.next ?_), fun notRefused notRequest notResponse => ⟨t, h, ?_⟩,
    fun notRefused send notSending fits => ⟨t, h, ?_⟩⟩
  · obtain ⟨code, notReady⟩ | ⟨code, early⟩ | ⟨code, begun⟩ | big := refused
    · exact (request code).trans (cmdSendRequest_of_ne notReady)
    · exact (response code).trans (cmdSendResponse_of_notInitialized early)
    · exact (begin code).trans (cmdBegin_of_ne begun)
    · exact reserved big
  · obtain ⟨code, rfl⟩ | ⟨-, rfl⟩ | ⟨code, -⟩ | ⟨code, -⟩ | ⟨-, f, rfl⟩ | ⟨big, -⟩ := runCommand_cases h
    · have first : s.status = .notInitialized := by
        by_contra begun
        exact notRefused (.inr (.inr (.inl ⟨code, begun⟩)))
      rw [cmdBegin_of_notInitialized first, accept_cmdOk]
    · exact accept_cmdOk _
    · exact absurd code notRequest
    · exact absurd code notResponse
    · exact accept_cmdOk _
    · exact absurd (.inr (.inr (.inr big))) notRefused
  · obtain ⟨kind, rfl⟩ : ∃ kind, t = acceptSend kind s := by
      obtain code | code := send
      · have ready : s.status = .ready := by
          by_contra notReady
          exact notRefused (.inl ⟨code, notReady⟩)
        exact ⟨.request, (request code).trans (cmdSendRequest_of_ready ready)⟩
      · have begun : s.status ≠ .notInitialized := fun early => notRefused (.inr (.inl ⟨code, early⟩))
        exact ⟨.response, (response code).trans (cmdSendResponse_of_ne begun)⟩
    exact ⟨rfl, cmdOk_after_tFrame fits kind⟩

end Sys2Proof.Machine
end

section

/-! ## Two engines back to back (60_exceptions.md §7) -/

namespace Sys2Proof.Machine

/-! ### Counting half-periods and microseconds -/

/-- An iteration that runs one counter up to `n` and carries into another. -/
theorem iterate_two_counters {α : Type} {step : α → α} {at_ : Nat → Nat → α} {n last : Nat} (pos : 0 < n)
    (inside : ∀ k j, k ≤ last → j + 1 < n → step (at_ k j) = at_ k (j + 1))
    (carry : ∀ k j, k < last → j + 1 = n → step (at_ k j) = at_ (k + 1) 0) {k j : Nat} (hk : k ≤ last) (hj : j < n) :
    step^[n * k + j] (at_ 0 0) = at_ k j := by
  have within {k : Nat} (hk : k ≤ last) {j : Nat} (hj : j < n) : step^[j] (at_ k 0) = at_ k j := by
    induction j with
    | zero => rfl
    | succ j ih => rw [Function.iterate_succ_apply', ih (Nat.lt_of_succ_lt hj), inside k j hk hj]
  have start {k : Nat} (hk : k ≤ last) : step^[n * k] (at_ 0 0) = at_ k 0 := by
    induction k with
    | zero => rfl
    | succ k ih =>
      have split : n * (k + 1) = (n - 1 + 1) + n * k := by rw [Nat.sub_add_cancel pos, Nat.mul_succ, Nat.add_comm]
      rw [split, Function.iterate_add_apply, ih (Nat.le_of_succ_le hk), Function.iterate_succ_apply',
        within (Nat.le_of_succ_le hk) (Nat.sub_lt pos Nat.one_pos), carry k _ hk (Nat.sub_add_cancel pos)]
  rw [Nat.add_comm, Function.iterate_add_apply, start hk, within hk hj]

/-! ### What the receiver hears -/

/-- The receiver after the first `k` half-periods of a frame on its line. -/
def heard (f : Word) : Nat → State → State
  | 0, r => r
  | k + 1, r => halfPeriod (hpLevel f k) (heard f k r)

theorem heard_two_mul (f : Word) (k : Nat) (r : State) :
    heard f (2 * k) r = ((List.range k).map (slotBit f)).foldl slot r := by
  induction k with
  | zero => rfl
  | succ k ih =>
    rw [List.range_succ, List.map_append, List.foldl_append, ← ih]
    change halfPeriod (hpLevel f (2 * k + 1)) (halfPeriod (hpLevel f (2 * k)) (heard f (2 * k) r)) = _
    rw [hpLevel_first_half, hpLevel_second_half]
    rfl

/-- The slots of rule R63 are the 34 slots of a wire frame. -/
theorem wireBits_eq_slotBits (f : Word) : wireBits true f true = (List.range 34).map (slotBit f) := rfl

theorem heard_frame (f : Word) (r : State) : heard f 68 r = receiveFrame true f true r := by
  rw [receiveFrame, wireBits_eq_slotBits]
  exact heard_two_mul f 34 r

/-- An engine with nothing to say: at rest, its output idle, no completion pulse, built with `p`. -/
def silent (p : Config.Params) (s : State) : Prop :=
  s.txBusy = false ∧ s.lineOut = .idle ∧ s.doneValid = false ∧ s.params = p

theorem silent_edgeEvent {p : Config.Params} (lvl : Level) (s : State) (h : silent p s) : silent p (edgeEvent lvl s) := by
  simpa [silent] using h

theorem silent_microsecond {p : Config.Params} (s : State) (h : silent p s) : silent p (microsecond s) := by
  rw [microsecond_idle h.1]
  exact h

theorem silent_heard {p : Config.Params} (f : Word) (k : Nat) {r : State} (h : silent p r) : silent p (heard f k r) := by
  induction k with
  | zero => exact h
  | succ k ih => exact halfPeriod_keeps silent_edgeEvent silent_microsecond _ ih

theorem wireLevel_of_lineOut_idle {s : State} (h : s.lineOut = .idle) : wireLevel s = .idle := by
  rw [wireLevel, h, ite_self]

theorem wireLevel_of_lineOe {s : State} (h : s.lineOe = true) : wireLevel s = s.lineOut := if_pos h

theorem endPulse_of_not_doneValid {s : State} (h : s.doneValid = false) : endPulse s = s := by
  rw [endPulse, ← h]

@[simp] theorem elapse_rxPrev (n : Nat) (s : State) : (elapse n s).rxPrev = s.rxPrev := by
  rw [elapse_eq_iterate]
  induction n with
  | zero => rfl
  | succ n ih => rw [Function.iterate_succ_apply', microsecond_rxPrev, ih]

/-! ### A frame on the link -/

theorem Link.elapse_eq_iterate (n : Nat) (l : Link) : Link.elapse n l = Link.microsecond^[n] l := by
  induction n generalizing l with
  | zero => rfl
  | succ n ih => rw [Link.elapse, ih, Function.iterate_succ_apply]

/-- A talker senses its listener's idle line, and the listener the talker's level. -/
theorem settle_of_idle {s r : State} (driven : s.lineOe = true) (quiet : s.rxPrev = .idle) (idle : r.lineOut = .idle) :
    Link.settle ⟨s, r⟩ = ⟨s, sample s.lineOut r⟩ := by
  change (⟨sample (wireLevel r) s, sample (wireLevel s) r⟩ : Link) = _
  rw [wireLevel_of_lineOut_idle idle, wireLevel_of_lineOe driven, sample_same quiet]

/-- One microsecond of a talker and a silent listener. -/
theorem Link.microsecond_of_silent {p : Config.Params} {s r : State} (driven : s.lineOe = true)
    (quiet : s.rxPrev = .idle) (noPulse : s.doneValid = false) (listener : silent p r) :
    Link.microsecond ⟨s, r⟩ =
      ⟨Machine.microsecond s, sample (Machine.microsecond s).lineOut (Machine.microsecond r)⟩ := by
  obtain ⟨-, idle, -, -⟩ := silent_microsecond r listener
  obtain ⟨-, -, noPulse', -⟩ := listener
  rw [Link.microsecond, endPulse_of_not_doneValid noPulse, endPulse_of_not_doneValid noPulse']
  exact settle_of_idle (by simpa using driven) (by simpa using quiet) idle

@[simp] theorem finalStep_lineOut (s : State) : (finalStep s).lineOut = .idle := by
  unfold finalStep
  split <;> rfl

/-- The link `j` microseconds into half-period `k` of the talker's frame. -/
def onAir (kind : TxKind) (s r : State) (k j : Nat) : Link where
  left := inFlight kind s k j
  right := Machine.elapse j (sample (hpLevel s.txdata k) (heard s.txdata k r))

section

variable {s r : State} (kind : TxKind) (fits : s.params.fits) (driven : s.lineOe = true) (quiet : s.rxPrev = .idle)
  (noPulse : s.doneValid = false) (listener : silent s.params r) {k j : Nat}
include listener

theorem silent_onAir (k j : Nat) : silent s.params (onAir kind s r k j).right :=
  elapse_keeps silent_microsecond j (sample_keeps silent_edgeEvent _ (silent_heard s.txdata k listener))

/-- At the end of a half-period the listener has heard it whole. -/
theorem heard_of_half_period (hj : j + 1 = s.params.tHalf) :
    elapse (j + 1) (sample (hpLevel s.txdata k) (heard s.txdata k r)) = heard s.txdata (k + 1) r := by
  obtain ⟨-, -, -, params⟩ := silent_heard s.txdata k listener
  rw [heard, halfPeriod, params, hj]

include driven quiet noPulse

theorem onAir_microsecond (k j : Nat) :
    Link.microsecond (onAir kind s r k j) =
      ⟨microsecond (inFlight kind s k j), sample (microsecond (inFlight kind s k j)).lineOut
        (elapse (j + 1) (sample (hpLevel s.txdata k) (heard s.txdata k r)))⟩ := by
  rw [elapse_eq_iterate, Function.iterate_succ_apply', ← elapse_eq_iterate]
  exact Link.microsecond_of_silent driven quiet noPulse (silent_onAir kind listener k j)

include fits

theorem onAir_inside (hk : k ≤ s.params.lastHp) (hj : j + 1 < s.params.tHalf) :
    Link.microsecond (onAir kind s r k j) = onAir kind s r k (j + 1) := by
  rw [onAir_microsecond kind driven quiet noPulse listener, microsecond_inFlight_inside fits kind hk hj]
  exact congrArg (Link.mk _) (sample_same (by simp [inFlight]))

theorem onAir_boundary (hk : k < s.params.lastHp) (hj : j + 1 = s.params.tHalf) :
    Link.microsecond (onAir kind s r k j) = onAir kind s r (k + 1) 0 := by
  rw [onAir_microsecond kind driven quiet noPulse listener, microsecond_inFlight_boundary fits kind hk hj,
    heard_of_half_period listener hj]
  rfl

theorem onAir_last (hj : j + 1 = s.params.tHalf) :
    Link.microsecond (onAir kind s r s.params.lastHp j) =
      ⟨finalStep { acceptSend kind s with now := s.now + BitVec.ofNat 32 s.params.tFrame },
        sample .idle (heard s.txdata (s.params.lastHp + 1) r)⟩ := by
  rw [onAir_microsecond kind driven quiet noPulse listener, microsecond_inFlight_last fits kind hj,
    heard_of_half_period listener hj, finalStep_lineOut]

/-- The whole frame, from the acceptance step to the final step. -/
theorem elapse_onAir :
    Link.elapse s.params.tFrame (onAir kind s r 0 0) =
      ⟨finalStep { acceptSend kind s with now := s.now + BitVec.ofNat 32 s.params.tFrame },
        sample .idle (heard s.txdata (s.params.lastHp + 1) r)⟩ := by
  have pos : 0 < s.params.tHalf := fits.1
  have time : s.params.tFrame = (s.params.tHalf * s.params.lastHp + (s.params.tHalf - 1)) + 1 := by
    rw [← tFrame_eq_halfPeriods fits]; omega
  rw [Link.elapse_eq_iterate, time, Function.iterate_succ_apply',
    iterate_two_counters (at_ := onAir kind s r) (last := s.params.lastHp) pos
      (fun _ _ hk hj => onAir_inside kind fits driven quiet noPulse listener hk hj)
      (fun _ _ hk hj => onAir_boundary kind fits driven quiet noPulse listener hk hj) le_rfl
      (Nat.sub_lt pos Nat.one_pos),
    onAir_last kind fits driven quiet noPulse listener (Nat.sub_add_cancel pos), time]

end

/-- Both pulses over. -/
def Link.endPulses (l : Link) : Link := ⟨endPulse l.left, endPulse l.right⟩

/-- The first microsecond ends both pulses anyway (rule R164). -/
theorem Link.elapse_endPulses {n : Nat} (pos : 0 < n) (l : Link) : Link.elapse n l.endPulses = Link.elapse n l := by
  cases n with
  | zero => cases pos
  | succ n => rfl

/-- A listener takes the start edge whether or not its pulse is over. -/
theorem endPulse_sample_active {r : State} (deaf : r.rxPrev = .idle)
    (listening : r.status = .responseWaiting ∨ (r.status = .ready ∧ r.isSlave = true)) :
    endPulse (sample .active r) = sample .active (endPulse r) := by
  have edge : r.rxPrev ≠ .active := by rw [deaf]; exact Level.noConfusion
  rw [sample_edge edge, sample_edge (s := endPulse r) edge, edgeEvent_active_of_listening listening,
    edgeEvent_active_of_listening (s := endPulse r) listening]
  rfl

/-- A send on the left reaches a listener on the right whole (rules R114, R135, R177). -/
theorem link_delivers (kind : TxKind) {p : Config.Params} {s r : State} (built : s.params = p) (alike : r.params = p)
    (reads : p.reads) (driven : s.lineOe = true) (quiet : s.rxPrev = .idle) (free : r.txBusy = false)
    (idle : r.lineOut = .idle) (deaf : r.rxPrev = .idle)
    (listening : r.status = .responseWaiting ∨ (r.status = .ready ∧ r.isSlave = true)) :
    Link.elapse p.tFrame (Link.settle ⟨acceptSend kind (endPulse s), r⟩) =
      ⟨finalStep { acceptSend kind (endPulse s) with now := s.now + BitVec.ofNat 32 p.tFrame },
        { endPulse r with
          status := .responseReady
          response := s.txdata
          responseBitIndex := 32
          responseTimestamp := r.now + BitVec.ofNat 32 (67 * p.tHalf)
          rxPrev := .idle
          now := r.now + BitVec.ofNat 32 p.tFrame }⟩ := by
  subst built
  have fits : s.params.fits := reads.1
  have start : (Link.settle ⟨acceptSend kind (endPulse s), r⟩).endPulses = onAir kind (endPulse s) (endPulse r) 0 0 := by
    rw [settle_of_idle (s := acceptSend kind (endPulse s)) driven quiet idle, onAir, inFlight_zero]
    exact congrArg (Link.mk _) (endPulse_sample_active deaf listening)
  have last : s.params.lastHp + 1 = 68 := by rw [Config.Params.lastHp, reads.2.1]
  have received : heard s.txdata (s.params.lastHp + 1) (endPulse r) = _ :=
    last ▸ (heard_frame s.txdata (endPulse r)).trans
      (receiveFrame_listening s.txdata true (s := endPulse r) (by rw [endPulse_params, alike]; exact reads) listening
        free deaf)
  have pos : 0 < s.params.tFrame := by
    obtain ⟨half, -, slots, -⟩ := fits
    exact Nat.mul_pos slots (Nat.mul_pos Nat.two_pos half)
  rw [← Link.elapse_endPulses pos, start]
  refine (elapse_onAir kind (s := endPulse s) (r := endPulse r) fits driven quiet rfl ⟨free, idle, rfl, alike⟩).trans ?_
  refine congrArg (Link.mk _) ?_
  change sample .idle (heard s.txdata (s.params.lastHp + 1) (endPulse r)) = _
  rw [received, sample_same]
  · rw [← alike]
    rfl
  · rfl

/-! ### Both legs -/

/-- The link seen from the other side. -/
def Link.swap (l : Link) : Link := ⟨l.right, l.left⟩

theorem Link.elapse_swap (n : Nat) (l : Link) : Link.elapse n l.swap = (Link.elapse n l).swap := by
  induction n generalizing l with
  | zero => rfl
  | succ n ih => exact ih (Link.microsecond l)

/-- An access on the right is one on the left of the swapped link. -/
theorem Link.elapse_onRight (n : Nat) (op : State → State) (l : Link) :
    Link.elapse n (l.onRight op) = (Link.elapse n (l.swap.onLeft op)).swap :=
  Link.elapse_swap n (l.swap.onLeft op)

theorem Link.onLeft_of_send {op : State → State} {kind : TxKind} {l : Link}
    (send : op (endPulse l.left) = acceptSend kind (endPulse l.left)) :
    l.onLeft op = Link.settle ⟨acceptSend kind (endPulse l.left), l.right⟩ := by
  rw [Link.onLeft, send]

/-- Settles O60: a send on the left reaches a listener on the right; the second leg is that seen from the other side. -/
theorem linkDeliversBothLegs : Obligations.LinkDeliversBothLegs := by
  unfold Obligations.LinkDeliversBothLegs
  intro l alike reads leftFree leftIdle leftDriven leftQuiet rightFree rightIdle rightDriven rightQuiet
  constructor
  · intro leftReady _ rightReady rightSlave m
    have send := Link.onLeft_of_send (l := l) (cmdSendRequest_of_ready (s := endPulse l.left) leftReady)
    have sent : m = _ := (congrArg (Link.elapse _) send).trans
      (link_delivers .request rfl alike.symm reads leftDriven leftQuiet rightFree rightIdle rightQuiet
        (.inr ⟨rightReady, rightSlave⟩))
    rw [sent]
    exact ⟨rfl, rfl, rfl, rfl, rfl, rfl, rfl⟩
  · intro leftWaiting begun _ m
    have send := Link.onLeft_of_send (l := l.swap) (cmdSendResponse_of_ne (s := endPulse l.right) begun)
    have sent : m = _ := (Link.elapse_onRight _ _ l).trans (congrArg Link.swap ((congrArg (Link.elapse _) send).trans
      (link_delivers .response alike.symm rfl reads rightDriven rightQuiet leftFree leftIdle leftQuiet
        (.inl leftWaiting))))
    rw [sent]
    exact ⟨rfl, rfl, rfl, rfl, rfl, rfl, rfl⟩

end Sys2Proof.Machine
end

section

/-! ## The blocking sendRequest (43_session.md §6) -/

namespace Sys2Proof.Machine

/-! ### What the host reads in STATUS -/

theorem readStatus_cmdOk (s : State) : (readStatus s).rdata.getLsbD 7 = (readStatus s).cmdOk := by
  obtain ⟨-, cmdOk, -⟩ := statusWord_flags (endPulse s)
  exact cmdOk

theorem readStatus_isReady (s : State) : isReadyWord (readStatus s).rdata = true ↔ (readStatus s).status = .ready := by
  obtain ⟨status, -⟩ := statusWord_fields (endPulse s)
  change ((statusWord (endPulse s)).extractLsb' 0 4 == 1) = true ↔ s.status = .ready
  rw [status, beq_iff_eq]
  exact Status.code_eq_one_iff s.status

theorem ResponseStatus.code_eq_one_iff (rs : ResponseStatus) : rs.code = 1 ↔ rs = .success := by
  cases rs <;> decide

theorem readStatus_succeeded (s : State) :
    lastResponseStatusWord (readStatus s).rdata = 1 ↔ (readStatus s).responseStatus = .success := by
  obtain ⟨-, responseStatus, -⟩ := statusWord_fields (endPulse s)
  change (statusWord (endPulse s)).extractLsb' 5 2 = 1 ↔ s.responseStatus = .success
  rw [responseStatus]
  exact ResponseStatus.code_eq_one_iff s.responseStatus

/-! ### The line between two accesses -/

/-- Anything an edge, a microsecond and the end of a pulse keep, the line keeps between two accesses. -/
theorem lineEvents_keeps {P : State → Prop} (edge : ∀ lvl s, P s → P (edgeEvent lvl s))
    (us : ∀ s, P s → P (microsecond s)) (pulse : ∀ s, P s → P (endPulse s)) (es : List LineEvent) {s : State}
    (h : P s) : P (lineEvents es s) := by
  unfold lineEvents
  induction es generalizing s with
  | nil => exact h
  | cons e es ih =>
    apply ih
    cases e with
    | pass n => exact elapse_keeps us n (pulse s h)
    | level lvl => exact sample_keeps edge lvl (pulse s h)

/-- `u` has what neither the line nor the time writes while no frame is sent as `s` has it. -/
def sameAtRest (s u : State) : Prop :=
  u.txBusy = false ∧ u.lineOut = s.lineOut ∧ u.done = s.done ∧ u.txFrame = s.txFrame ∧ u.cmdOk = s.cmdOk ∧
  u.isSlave = s.isSlave ∧ u.responseStatus = s.responseStatus ∧ u.txdata = s.txdata ∧ u.params = s.params

theorem lineEvents_sameAtRest (es : List LineEvent) {s : State} (rest : s.txBusy = false) :
    sameAtRest s (lineEvents es s) := by
  refine lineEvents_keeps (P := sameAtRest s) (fun lvl u h => ?_) (fun u h => ?_) (fun u h => h) es
    ⟨rest, rfl, rfl, rfl, rfl, rfl, rfl, rfl, rfl⟩
  · simpa [sameAtRest] using h
  · rw [microsecond_idle h.1]
    simpa [sameAtRest] using h

/-- Nothing on the line brings READY about (rule R158). -/
theorem lineEvents_ne_ready (es : List LineEvent) {s : State} (rest : s.txBusy = false) (h : s.status ≠ .ready) :
    (lineEvents es s).status ≠ .ready := by
  refine (lineEvents_keeps (P := fun u => u.txBusy = false ∧ u.status ≠ .ready) (fun lvl u hu => ?_) (fun u hu => ?_)
    (fun u hu => hu) es ⟨rest, h⟩).2
  · refine ⟨by simpa using hu.1, ?_⟩
    obtain same | ⟨new, -⟩ := edgeEvent_status lvl u
    · rw [same]; exact hu.2
    · rintro ready
      rw [ready] at new
      cases new
  · rw [microsecond_idle hu.1]
    exact hu

/-- A master's READY is not left for an edge (rule R131). -/
theorem lineEvents_ready (es : List LineEvent) {s : State} (rest : s.txBusy = false) (ready : s.status = .ready)
    (master : s.isSlave = false) : (lineEvents es s).status = .ready := by
  refine (lineEvents_keeps (P := fun u => u.txBusy = false ∧ u.isSlave = false ∧ u.status = .ready)
    (fun lvl u hu => ?_) (fun u hu => ?_) (fun u hu => hu) es ⟨rest, master, ready⟩).2.2
  · rw [edgeEvent_ready_ignores hu.2.2 (.inl hu.2.1)]
    exact hu
  · rw [microsecond_idle hu.1]
    exact hu

/-- The port is free at once when no frame is sent (rule R49). -/
theorem awaitPort_of_rest (es : List LineEvent) {s : State} (rest : s.txBusy = false) :
    awaitPort es s = lineEvents es s := by
  have free : (lineEvents es s).txBusy = false := (lineEvents_sameAtRest es rest).1
  change elapse (holdTime (lineEvents es s)) (lineEvents es s) = _
  rw [holdTime, free]
  rfl

/-! ### A request while the line does as it likes -/

/-- A request for `f` is being sent, with counters in their range (rules R24, R36(d)). -/
def sendingRequest (f : Word) (u : State) : Prop :=
  u.txFrame = f ∧ u.params.fits ∧ u.txBusy = true ∧ u.status = .requestSending ∧ u.txKind = .request ∧
  u.txHp.toNat ≤ u.params.lastHp ∧ u.txCnt.toNat < u.params.tHalf

/-- The request for `f` has been sent and its exchange is under way. -/
def armedFor (f : Word) (u : State) : Prop :=
  u.status.inExchange = true ∧ u.txFrame = f ∧ u.txBusy = false ∧ u.cmdOk = true

theorem sendingRequest_acceptSend {s : State} (fits : s.params.fits) : sendingRequest s.txdata (acceptSend .request s) :=
  ⟨rfl, fits, rfl, rfl, rfl, Nat.zero_le _, fits.1⟩

/-- The hold time of a frame in flight, by its counters (rule R114). -/
theorem holdTime_of_busy {u : State} (busy : u.txBusy = true) :
    holdTime u = (u.params.lastHp + 1 - u.txHp.toNat) * u.params.tHalf - u.txCnt.toNat := if_pos busy

/-- A microsecond of a request takes one from its hold time, and the last one arms the receiver (rules R113, R117). -/
theorem microsecond_sendingRequest {f : Word} {u : State} (h : sendingRequest f u) :
    (sendingRequest f (microsecond u) ∧ holdTime u = holdTime (microsecond u) + 1) ∨
    (armedFor f (microsecond u) ∧ holdTime u = 1) := by
  obtain ⟨frame, fits, busy, sending, kind, hp, cnt⟩ := h
  obtain ⟨half_pos, half_le, -, slots_le⟩ := id fits
  have lastHp_lt : u.params.lastHp < 2 ^ 7 := by unfold Config.Params.lastHp; omega
  obtain ⟨idle, e⟩ | ⟨-, inside, e⟩ | ⟨-, past, more, e⟩ | ⟨-, ⟨past, last⟩, e⟩ := microsecond_cases u <;> rw [e]
  · rw [busy] at idle; cases idle
  · have count : (u.txCnt + 1).toNat = u.txCnt.toNat + 1 := toNat_add_one_of_lt (by omega)
    have left : u.params.tHalf ≤ (u.params.lastHp + 1 - u.txHp.toNat) * u.params.tHalf :=
      Nat.le_mul_of_pos_left _ (by omega)
    refine .inl ⟨⟨frame, fits, busy, sending, kind, hp, count.trans_lt inside⟩, ?_⟩
    rw [holdTime_of_busy busy, holdTime_of_busy (by exact busy)]
    change _ = (u.params.lastHp + 1 - u.txHp.toNat) * u.params.tHalf - (u.txCnt + 1).toNat + 1
    rw [count]
    omega
  · have index : (u.txHp + 1).toNat = u.txHp.toNat + 1 := toNat_add_one_of_lt (by omega)
    have left : u.params.lastHp + 1 - u.txHp.toNat = (u.params.lastHp + 1 - (u.txHp.toNat + 1)) + 1 := by omega
    refine .inl ⟨⟨frame, fits, busy, sending, kind, index.trans_le more, half_pos⟩, ?_⟩
    rw [holdTime_of_busy busy, holdTime_of_busy (by exact busy), left, Nat.add_one_mul]
    change _ = (u.params.lastHp + 1 - (u.txHp + 1).toNat) * u.params.tHalf - 0 + 1
    rw [index]
    omega
  · have left : u.params.lastHp + 1 - u.txHp.toNat = 1 := by omega
    rw [holdTime_of_busy busy, left, Nat.one_mul, finalStep_of_request (s := tick u) kind]
    exact .inr ⟨⟨rfl, frame, rfl, rfl⟩, by omega⟩

theorem edgeEvent_sendingRequest {f : Word} {u : State} (lvl : Level) (h : sendingRequest f u) :
    sendingRequest f (edgeEvent lvl u) := by
  obtain ⟨frame, fits, busy, sending, counters⟩ := h
  rw [edgeEvent_deaf lvl (.inr (.inl sending))]
  exact ⟨frame, fits, busy, sending, counters⟩

theorem edgeEvent_armedFor {f : Word} {u : State} (lvl : Level) (h : armedFor f u) : armedFor f (edgeEvent lvl u) := by
  obtain ⟨exchange, rest⟩ := h
  have within : (edgeEvent lvl u).status.inExchange = true := by
    obtain same | ⟨new, -⟩ := edgeEvent_status lvl u
    · rw [same]; exact exchange
    · exact new
  exact ⟨within, by simpa using rest⟩

theorem microsecond_armedFor {f : Word} {u : State} (h : armedFor f u) : armedFor f (microsecond u) := by
  obtain ⟨exchange, frame, free, ok⟩ := h
  rw [microsecond_idle free]
  exact ⟨exchange, frame, free, ok⟩

/-- Whatever the line does, the request is being sent or its exchange is under way. -/
theorem lineEvents_underWay {f : Word} (es : List LineEvent) {u : State} (h : sendingRequest f u ∨ armedFor f u) :
    sendingRequest f (lineEvents es u) ∨ armedFor f (lineEvents es u) := by
  refine lineEvents_keeps (P := fun u => sendingRequest f u ∨ armedFor f u) ?_ ?_ (fun u h => h) es h
  · rintro lvl u (sending | armed)
    · exact .inl (edgeEvent_sendingRequest lvl sending)
    · exact .inr (edgeEvent_armedFor lvl armed)
  · rintro u (sending | armed)
    · obtain ⟨sending', -⟩ | ⟨armed, -⟩ := microsecond_sendingRequest sending
      · exact .inl sending'
      · exact .inr armed
    · exact .inr (microsecond_armedFor armed)

/-- A silent line for the rest of the hold time (rules R49, R114). -/
theorem elapse_holdTime {f : Word} {u : State} (h : sendingRequest f u) : armedFor f (elapse (holdTime u) u) := by
  obtain ⟨n, hold⟩ : ∃ n, holdTime u = n := ⟨_, rfl⟩
  rw [hold]
  induction n generalizing u with
  | zero =>
    obtain ⟨-, later⟩ | ⟨-, now⟩ := microsecond_sendingRequest h
    · omega
    · omega
  | succ n ih =>
    rw [elapse_succ]
    obtain ⟨sending, later⟩ | ⟨armed, now⟩ := microsecond_sendingRequest h
    · exact ih sending (by omega)
    · have last : n = 0 := by omega
      rw [last]
      exact armed

theorem awaitPort_armedFor {f : Word} (es : List LineEvent) {u : State} (h : sendingRequest f u) :
    armedFor f (awaitPort es u) := by
  change armedFor f (elapse (holdTime (lineEvents es u)) (lineEvents es u))
  obtain sending | armed := lineEvents_underWay es (.inl h)
  · exact elapse_holdTime sending
  · rw [holdTime, armed.2.2.1]
    exact armed

/-! ### The send -/

/-- The state in which SEND_REQUEST meets the engine (rule R79(c)). -/
def beforeSend (f : Word) (setup : List LineEvent) (s : State) : State :=
  endPulse (lineEvents setup (writeTxdata f s))

theorem beforeSend_sameAtRest (f : Word) (setup : List LineEvent) {s : State} (rest : s.txBusy = false) :
    sameAtRest (writeTxdata f s) (beforeSend f setup s) :=
  lineEvents_sameAtRest setup (s := writeTxdata f s) rest

/-- The state in which the host reads STATUS after the send, and STATUS read (rule R79(c)). -/
theorem sendRequestAsync_eq (f : Word) (setup during : List LineEvent) (s : State) :
    sendRequestAsync f setup during s =
      (let t := readStatus (awaitPort during (cmdSendRequest (beforeSend f setup s)))
      (t.cmdOk, t)) :=
  Prod.ext (readStatus_cmdOk _) rfl

/-- A refused send returns 0 at once (rule R154). -/
theorem sendRequestBlocking_of_refused {f : Word} {line : LineScript} {s t : State}
    (sent : readStatus (awaitPort line.during (cmdSendRequest (beforeSend f line.setup s))) = t)
    (refused : t.cmdOk = false) : sendRequestBlocking f line s = some (0, t) := by
  rw [sendRequestBlocking, sendRequestAsync_eq, sent]
  simp [refused]

/-- An accepted send is polled until STATUS is READY (rule R154). -/
theorem sendRequestBlocking_of_accepted {f : Word} {line : LineScript} {s t : State}
    (sent : readStatus (awaitPort line.during (cmdSendRequest (beforeSend f line.setup s))) = t)
    (accepted : t.cmdOk = true) : sendRequestBlocking f line s = pollUntilReady line.rounds line.last t := by
  rw [sendRequestBlocking, sendRequestAsync_eq, sent]
  simp [accepted]

theorem sendRequestBlocking_outside_ready (f : Word) (line : LineScript) {s : State} (rest : s.txBusy = false)
    (notReady : s.status ≠ .ready) :
    ∃ t, sendRequestBlocking f line s = some (0, t) ∧ t.txBusy = false ∧ t.lineOut = s.lineOut ∧ t.done = s.done ∧
      t.txFrame = s.txFrame ∧ t.cmdOk = false := by
  obtain ⟨free, out, done, frame, -⟩ := beforeSend_sameAtRest f line.setup rest
  have still : (beforeSend f line.setup s).status ≠ .ready :=
    lineEvents_ne_ready line.setup (s := writeTxdata f s) rest notReady
  obtain ⟨free', out', done', frame', ok, -⟩ :=
    lineEvents_sameAtRest line.during (s := refuse (beforeSend f line.setup s)) free
  refine ⟨_, sendRequestBlocking_of_refused rfl ?_, ?_⟩
  all_goals rw [cmdSendRequest_of_ne still, awaitPort_of_rest _ (by exact free)]
  · exact ok
  · exact ⟨free', out'.trans out, done'.trans done, frame'.trans frame, ok⟩

theorem sendRequestBlocking_in_ready (f : Word) (line : LineScript) {s : State} (rest : s.txBusy = false)
    (ready : s.status = .ready) (quiet : s.isSlave = false ∨ line.setup = []) (fits : s.params.fits) :
    ∃ armed : State, armed.status.inExchange = true ∧ armed.txFrame = f ∧ armed.txBusy = false ∧ armed.cmdOk = true ∧
      sendRequestBlocking f line s = pollUntilReady line.rounds line.last armed := by
  have still : (beforeSend f line.setup s).status = .ready := by
    obtain master | silent := quiet
    · exact lineEvents_ready line.setup (s := writeTxdata f s) rest ready master
    · rw [beforeSend, silent]
      exact ready
  obtain ⟨-, -, -, -, -, -, -, txdata, params⟩ := beforeSend_sameAtRest f line.setup rest
  have sending := sendingRequest_acceptSend (s := beforeSend f line.setup s) (by rw [params]; exact fits)
  rw [txdata, ← cmdSendRequest_of_ready still] at sending
  obtain ⟨exchange, frame, free, ok⟩ := awaitPort_armedFor line.during sending
  exact ⟨readStatus _, exchange, frame, free, ok, sendRequestBlocking_of_accepted rfl ok⟩

/-! ### The loop -/

@[simp] theorem cmdPoll_txBusy (s : State) : (cmdPoll s).txBusy = s.txBusy := by
  rw [cmdPoll, pollEffect_frame]
  rfl

@[simp] theorem cmdPoll_isSlave (s : State) : (cmdPoll s).isSlave = s.isSlave := (cmdPoll_sameBesideCommands s).1.2.2

/-- A round leaves the transmit agent at rest and the role as it was. -/
theorem pollRound_keeps (r : Round) {s : State} (rest : s.txBusy = false) :
    (pollRound r s).txBusy = false ∧ (pollRound r s).isSlave = s.isSlave := by
  obtain ⟨free, -, -, -, -, role, -⟩ := lineEvents_sameAtRest r.before rest
  obtain ⟨free', -, -, -, -, role', -⟩ := lineEvents_sameAtRest r.between
    (s := cmdPoll (endPulse (lineEvents r.before s))) (by rw [cmdPoll_txBusy]; exact free)
  exact ⟨free', role'.trans ((cmdPoll_isSlave _).trans role)⟩

/-- What the loop returns once STATUS has been read as READY (rules R79(e), R154). -/
theorem sendRequestResult_spec {last : List LineEvent} {s t : State} {w : Word} (rest : (readStatus s).txBusy = false)
    (ready : (readStatus s).status = .ready) (h : sendRequestResult last (readStatus s) = (w, t)) :
    (w = if t.responseStatus = .success then t.response else 0) ∧
    (t.responseStatus ≠ .success ∨ (readStatus s).isSlave = false ∨ last = [] → t.status = .ready) := by
  by_cases success : (readStatus s).responseStatus = .success
  · rw [sendRequestResult, if_pos ((readStatus_succeeded s).mpr success)] at h
    obtain ⟨rfl, rfl⟩ := Prod.mk.inj h
    obtain ⟨-, -, -, -, -, -, result, -⟩ := lineEvents_sameAtRest last rest
    have reported : (readReg 3 (endPulse (lineEvents last (readStatus s)))).responseStatus = .success :=
      result.trans success
    refine ⟨by rw [if_pos reported]; rfl, ?_⟩
    rintro (failed | master | silent)
    · exact absurd reported failed
    · exact lineEvents_ready last rest ready master
    · rw [silent]
      exact ready
  · rw [sendRequestResult, if_neg (mt (readStatus_succeeded s).mp success)] at h
    obtain ⟨rfl, rfl⟩ := Prod.mk.inj h
    exact ⟨(if_neg success).symm, fun _ => ready⟩

/-- The loop's answer, by induction on its rounds (rule R154). -/
theorem pollUntilReady_spec (rounds : List Round) (last : List LineEvent) {s t : State} {w : Word}
    (rest : s.txBusy = false) (h : pollUntilReady rounds last s = some (w, t)) :
    (w = if t.responseStatus = .success then t.response else 0) ∧
    (t.responseStatus ≠ .success ∨ s.isSlave = false ∨ last = [] → t.status = .ready) := by
  induction rounds generalizing s with
  | nil => cases h
  | cons r rounds ih =>
    obtain ⟨rest', role⟩ := pollRound_keeps r rest
    have isReady : isReadyWord (pollRound r s).rdata = true ↔ (pollRound r s).status = .ready := readStatus_isReady _
    rw [← role]
    rw [pollUntilReady] at h
    by_cases ready : (pollRound r s).status = .ready
    · rw [if_pos (isReady.mpr ready)] at h
      exact sendRequestResult_spec rest' ready (Option.some.inj h)
    · rw [if_neg (mt isReady.mp ready)] at h
      exact ih rest' h

/-- The POLL after more than `T_TIMEOUT` of silence (rule R150). -/
theorem cmdPoll_of_silence {s : State} {n : Nat} (rest : s.txBusy = false) (waiting : s.status = .responseWaiting)
    (armedNow : s.now = s.responseTimestamp) (silence : s.params.tTimeout < n) (fits : n < 2 ^ 32) :
    ∃ t, cmdPoll (endPulse (lineEvents [.pass n] s)) = t ∧ t.status = .ready ∧ t.responseStatus = .timeout := by
  have heard : lineEvents [.pass n] s = { endPulse s with now := s.now + BitVec.ofNat 32 n } :=
    elapse_idle (s := endPulse s) rest n
  rw [heard, cmdPoll, pollEffect_receiving (.inl (by exact waiting)), if_pos]
  · exact ⟨_, rfl, rfl, rfl⟩
  · change s.params.tTimeout < (s.now + BitVec.ofNat 32 n - s.responseTimestamp).toNat
    rw [armedNow, elapsed_self_add _ fits]
    exact silence

/-- An armed engine that hears nothing for more than `T_TIMEOUT` (rules R150, R154). -/
theorem pollUntilReady_of_silence {s : State} {n : Nat} (rest : s.txBusy = false) (waiting : s.status = .responseWaiting)
    (armedNow : s.now = s.responseTimestamp) (silence : s.params.tTimeout < n) (fits : n < 2 ^ 32) :
    ∃ t, pollUntilReady [⟨[.pass n], []⟩] [] s = some (0, t) ∧ t.status = .ready ∧ t.responseStatus = .timeout := by
  obtain ⟨t, polled, ready, timeout⟩ := cmdPoll_of_silence rest waiting armedNow silence fits
  have round : pollRound ⟨[.pass n], []⟩ s = readStatus t := congrArg readStatus polled
  have failed : ¬ (readStatus t).responseStatus = .success := by
    change ¬ t.responseStatus = .success
    rw [timeout]
    exact ResponseStatus.noConfusion
  refine ⟨readStatus t, ?_, ready, timeout⟩
  rw [pollUntilReady, round, if_pos ((readStatus_isReady t).mpr ready), sendRequestResult,
    if_neg (mt (readStatus_succeeded t).mp failed)]

/-- An accepted send holds the port for `T_FRAME` (rules R49, R114). -/
theorem holdTime_acceptSend (kind : TxKind) {s : State} (fits : s.params.fits) :
    holdTime (acceptSend kind s) = s.params.tFrame := by
  rw [holdTime_of_busy rfl, ← tFrame_eq_halfPeriods fits]
  change (s.params.lastHp + 1 - 0) * s.params.tHalf - 0 = _
  rw [Nat.sub_zero, Nat.sub_zero, Nat.add_one_mul, Nat.mul_comm]

/-- On a silent line the host gets the port back with the final step of its request (rule R117). -/
theorem awaitPort_silent {s : State} (ready : s.status = .ready) (fits : s.params.fits) :
    awaitPort [] (cmdSendRequest s) =
      finalStep { acceptSend .request s with now := s.now + BitVec.ofNat 32 s.params.tFrame } := by
  rw [cmdSendRequest_of_ready ready]
  change elapse (holdTime (acceptSend .request s)) (acceptSend .request s) = _
  rw [holdTime_acceptSend .request fits, elapse_eq_iterate, iterate_microsecond_tFrame_acceptSend fits]

theorem sendRequestBlocking_of_silence (f : Word) {s : State} {n : Nat} (ready : s.status = .ready)
    (fits : s.params.fits) (silence : s.params.tTimeout < n) (bound : n < 2 ^ 32) :
    ∃ t, sendRequestBlocking f ⟨[], [], [⟨[.pass n], []⟩], []⟩ s = some (0, t) ∧ t.status = .ready ∧
      t.responseStatus = .timeout := by
  have sent := awaitPort_silent (s := beforeSend f [] s) ready fits
  have ok : (readStatus (awaitPort [] (cmdSendRequest (beforeSend f [] s)))).cmdOk = true := by
    rw [sent]
    rfl
  rw [sendRequestBlocking_of_accepted (line := ⟨[], [], [⟨[.pass n], []⟩], []⟩) rfl ok, sent]
  exact pollUntilReady_of_silence rfl rfl rfl silence bound

/-- Settles O59: the send by whether the engine is in READY when it comes, then the loop by its rounds. -/
theorem blockingSendRequest : Obligations.BlockingSendRequest := by
  unfold Obligations.BlockingSendRequest
  refine ⟨fun f line s rest => ⟨sendRequestBlocking_outside_ready f line rest, fun ready quiet fits =>
    sendRequestBlocking_in_ready f line rest ready quiet fits⟩, fun f s n _ ready fits silence bound =>
    sendRequestBlocking_of_silence f ready fits silence bound, fun rounds last s w t rest h =>
    pollUntilReady_spec rounds last rest h⟩

end Sys2Proof.Machine
end
